-- ==== Sys2Proof/Word.lean ====
section
/-! DEFINITION. The word types of RPS-FC (00_scope.md R8, R11; 10_state.md R31, R70). -/

namespace Sys2Proof

/-- One byte: a single-wire data byte, a CRC input byte, a frame byte. -/
abbrev Byte := BitVec 8

/-- A `u16`: CRC value, window length, EEPROM address. -/
abbrev Half := BitVec 16

/-- A `u32`: every register image and every bus operand (REG_BITS = 32, R8). -/
abbrev Word := BitVec 32

/-- A `u64`: every timestamp and elapsed time (TS_BITS = 64, R8). -/
abbrev Stamp := BitVec 64

/-- A 16-bit operation descriptor (30_encoding.md R130). -/
abbrev Descriptor := BitVec 16

/-- A byte offset in the 4096-byte register window (30_encoding.md R131). -/
abbrev Offset := BitVec 12

end Sys2Proof
end

