-- ==== Sys2Proof/Config.lean ====
section
/-! DEFINITION. What is fixed for a run of RPS-FC: the constants and the OPEN parameters of
00_scope.md R8, and the one value the spec leaves to any choice (93_implementation_defined.md I7). -/

namespace Sys2Proof

/-- The two bus masters (20_memory.md R110). -/
inductive Master where
  | coreA
  | coreB
deriving DecidableEq, Repr

/-- Who performs operations on the block: a core, or the environment (20_memory.md R110). -/
inductive Agent where
  | core (m : Master)
  | environment
deriving DecidableEq, Repr

namespace Config

/-! ## Fixed values (R8) -/

/-- WINDOW_BYTES. -/
def windowBytes : Nat := 4096

/-- RECIP_MIN_EDGES: floor of the RECIP target (90_conflicts.md C6). -/
def recipMinEdges : Nat := 64

/-- FRAC_RESET: 0.25 in Q0.16. -/
def fracReset : Half := 0x4000#16

/-- WINDOW_RESET, in milliseconds. -/
def windowReset : Half := 100#16

/-- BITRATE_RESET, in hertz. -/
def bitrateReset : Word := 20000#32

/-- HALF_MIN_US and HALF_MAX_US: the clamp of the half-bit period. -/
def halfMinUs : Nat := 5

/-- HALF_MAX_US. -/
def halfMaxUs : Nat := 200

/-- EE_SIZE: the EEPROM's address space in bytes. -/
def eeSize : Nat := 0x200

/-- PROBE_FIRST. -/
def probeFirst : Byte := 0xA0#8

/-- PROBE_STEP. -/
def probeStep : Nat := 2

/-- CRC_POLY. -/
def crcPoly : Half := 0x1021#16

/-- CRC_INIT. CRC_XOROUT is 0x0000: nothing is XORed into the running value (42_crc_frame.md R290). -/
def crcInit : Half := 0xFFFF#16

/-- FRAME_HDR, first and second byte. -/
def frameHdr0 : Byte := 0x55#8

/-- The second header byte of FRAME_HDR. -/
def frameHdr1 : Byte := 0xAA#8

/-- FRAME_PAYLOAD_LEN. -/
def framePayloadLen : Nat := 19

/-! ## OPEN parameters (R8) -/

/-- PLATFORM_ORDER: what orders a core's accesses to the block against its accesses to ordinary memory, which
is outside the block, so no operation of the block reads it (20_memory.md R112; log entry 16). -/
inductive PlatformOrder where
  /-- A barrier of the platform's, as a program must use one. -/
  | barrier
  /-- Program order, on a platform that needs no barrier. -/
  | programOrder
deriving DecidableEq, Repr

/-- The OPEN parameters a model takes as an argument (R8). The machine's state carries them in a field
that no operation changes (R30; log entry 3). -/
structure Params where
  /-- BASE: bus address of offset 0. -/
  base : Nat
  /-- BUF_CAP: engine data buffer capacity in bytes. -/
  bufCap : Nat
  /-- PROBE_LAST: last probed device address. -/
  probeLast : Byte
  /-- START_BYTE. -/
  startByte : Byte
  /-- READ_CMD. -/
  readCmd : Byte
  /-- T_STBY_US; 32 bits because `st.sw_wait` is a `u32` (log entry 4). -/
  tStby : Word
  /-- T_HDR_US; 32 bits because `st.sw_wait` is a `u32` (log entry 4). -/
  tHdr : Word
  /-- IDLE_LEVEL: level a released, undriven line reads. -/
  idleLevel : Bool
  /-- RQ_DEPTH. -/
  rqDepth : Nat
  /-- FQ_DEPTH. -/
  fqDepth : Nat
  /-- IRQ_ROUTE for `irq[0]`. -/
  irqRoute0 : Master
  /-- IRQ_ROUTE for `irq[1]`. -/
  irqRoute1 : Master
  /-- IRQ_ROUTE for `irq[2]`. -/
  irqRoute2 : Master
  /-- PLATFORM_ORDER. -/
  platformOrder : PlatformOrder
deriving DecidableEq, Repr

/-- The ranges R8 states. A model rejects any other choice (R9). -/
abbrev Params.Valid (p : Params) : Prop :=
  p.base % windowBytes = 0 ∧
  (8 ≤ p.bufCap ∧ p.bufCap ≤ 1024) ∧
  (p.probeLast.toNat % 2 = 0 ∧ probeFirst.toNat ≤ p.probeLast.toNat ∧ p.probeLast.toNat ≤ 0xFE) ∧
  (1 ≤ p.tStby.toNat ∧ 1 ≤ p.tHdr.toNat) ∧
  (1 ≤ p.rqDepth ∧ p.rqDepth ≤ 255) ∧
  (1 ≤ p.fqDepth ∧ p.fqDepth ≤ 255)

/-- The defaults R8 gives for the test vectors. BASE has none; 0 is a DESIGN CHOICE (log entry 22). -/
def Params.default : Params where
  base := 0
  bufCap := 64
  probeLast := 0xAE#8
  startByte := 0x55#8
  readCmd := 0x03#8
  tStby := 600#32
  tHdr := 5#32
  idleLevel := false
  rqDepth := 4
  fqDepth := 4
  irqRoute0 := .coreB
  irqRoute1 := .coreA
  irqRoute2 := .coreA
  platformOrder := .barrier

/-! ## Free value -/

/-- What software writes into a frame's `f_hz_x1e4` for a frequency that does not fit an `i32`
(R_FREQ_X1E4 above 2^31 - 1): any value (93_implementation_defined.md I7; log entry 15). -/
opaque frameFreqOverflow : Word → Word

end Config

end Sys2Proof
end

