-- ==== Sys2Proof/Syntax.lean ====
section
/-! DEFINITION. The operations of RPS-FC: one constructor per row of spec/opcode_table.json, in the
table's order. An operation is what the spec calls an instruction (00_scope.md R2): a bus read, a bus
write with its 32-bit operand, or an environment event (30_encoding.md R130). -/

namespace Sys2Proof

/-- The operations. `v` is a bus write's data operand; `j` a SW_BUF word index (`OFF[9:2]`, R133);
`w` the word part `OFF[11:2]` of an offset; `off` a whole byte offset; the operands of the reserved rows
are the descriptor bits the row does not fix. -/
inductive Instr where
  /-- `RD.CNT_CTRL`: R370, R32. -/
  | rdCntCtrl
  /-- `WR.CNT_CTRL`: R160, R32. -/
  | wrCntCtrl (v : Word)
  /-- `RD.CNT_WINDOW`: R370, R33. -/
  | rdCntWindow
  /-- `WR.CNT_WINDOW`: R162, R33. -/
  | wrCntWindow (v : Word)
  /-- `RD.CNT_PPM`: R370, R34. -/
  | rdCntPpm
  /-- `WR.CNT_PPM`: R163, R34. -/
  | wrCntPpm (v : Word)
  /-- `RD.CNT_FRAC`: R370, R35. -/
  | rdCntFrac
  /-- `WR.CNT_FRAC`: R167, R35. -/
  | wrCntFrac (v : Word)
  /-- `RD.CNT_STATUS`: R370, R36. -/
  | rdCntStatus
  /-- `WR.CNT_STATUS`: R376, R36. -/
  | wrCntStatus (v : Word)
  /-- `RD.CNT_CUR_WINDOW`: R370, R37. -/
  | rdCntCurWindow
  /-- `WR.CNT_CUR_WINDOW`: R376, R37. -/
  | wrCntCurWindow (v : Word)
  /-- `RD.CNT_PULSES`: R370, R38. -/
  | rdCntPulses
  /-- `WR.CNT_PULSES`: R376, R38. -/
  | wrCntPulses (v : Word)
  /-- `RD.CNT_RAW`: R370, R39. -/
  | rdCntRaw
  /-- `WR.CNT_RAW`: R376, R39. -/
  | wrCntRaw (v : Word)
  /-- `RD.CNT_GLITCH`: R370, R40. -/
  | rdCntGlitch
  /-- `WR.CNT_GLITCH`: R376, R40. -/
  | wrCntGlitch (v : Word)
  /-- `RD.CNT_TARGET`: R370, R41. -/
  | rdCntTarget
  /-- `WR.CNT_TARGET`: R376, R41. -/
  | wrCntTarget (v : Word)
  /-- `RD.CNT_MIN_INTERVAL`: R370, R42. -/
  | rdCntMinInterval
  /-- `WR.CNT_MIN_INTERVAL`: R376, R42. -/
  | wrCntMinInterval (v : Word)
  /-- `RD.CNT_ESTIMATE`: R370, R43. -/
  | rdCntEstimate
  /-- `WR.CNT_ESTIMATE`: R376, R43. -/
  | wrCntEstimate (v : Word)
  /-- `RD.CNT_START_LO`: R370, R44. -/
  | rdCntStartLo
  /-- `WR.CNT_START_LO`: R376, R44. -/
  | wrCntStartLo (v : Word)
  /-- `RD.CNT_START_HI`: R370, R44. -/
  | rdCntStartHi
  /-- `WR.CNT_START_HI`: R376, R44. -/
  | wrCntStartHi (v : Word)
  /-- `RD.CNT_END_LO`: R370, R45. -/
  | rdCntEndLo
  /-- `WR.CNT_END_LO`: R376, R45. -/
  | wrCntEndLo (v : Word)
  /-- `RD.CNT_END_HI`: R370, R45. -/
  | rdCntEndHi
  /-- `WR.CNT_END_HI`: R376, R45. -/
  | wrCntEndHi (v : Word)
  /-- `RD.CNT_ALARM_LO`: R370, R46. -/
  | rdCntAlarmLo
  /-- `WR.CNT_ALARM_LO`: R376, R46. -/
  | wrCntAlarmLo (v : Word)
  /-- `RD.CNT_ALARM_HI`: R370, R46. -/
  | rdCntAlarmHi
  /-- `WR.CNT_ALARM_HI`: R376, R46. -/
  | wrCntAlarmHi (v : Word)
  /-- `RD.SW_CTRL`: R370, R47. -/
  | rdSwCtrl
  /-- `WR.SW_CTRL`: R235, R47. -/
  | wrSwCtrl (v : Word)
  /-- `RD.SW_STATUS`: R370, R48. -/
  | rdSwStatus
  /-- `WR.SW_STATUS`: R376, R48. -/
  | wrSwStatus (v : Word)
  /-- `RD.SW_BITRATE`: R370, R49. -/
  | rdSwBitrate
  /-- `WR.SW_BITRATE`: R243, R49. -/
  | wrSwBitrate (v : Word)
  /-- `RD.SW_HALF`: R370, R50. -/
  | rdSwHalf
  /-- `WR.SW_HALF`: R376, R50. -/
  | wrSwHalf (v : Word)
  /-- `RD.SW_ADDR`: R370, R51. -/
  | rdSwAddr
  /-- `WR.SW_ADDR`: R244, R51. -/
  | wrSwAddr (v : Word)
  /-- `RD.SW_LEN`: R370, R52. -/
  | rdSwLen
  /-- `WR.SW_LEN`: R245, R52. -/
  | wrSwLen (v : Word)
  /-- `RD.SW_LAST`: R370, R53. -/
  | rdSwLast
  /-- `WR.SW_LAST`: R376, R53. -/
  | wrSwLast (v : Word)
  /-- `RD.CRC_CTRL`: R370, R55. -/
  | rdCrcCtrl
  /-- `WR.CRC_CTRL`: R291, R55. -/
  | wrCrcCtrl (v : Word)
  /-- `RD.CRC_DATA`: R370, R56. -/
  | rdCrcData
  /-- `WR.CRC_DATA`: R292, R56. -/
  | wrCrcData (v : Word)
  /-- `RD.CRC_VALUE`: R370, R57. -/
  | rdCrcValue
  /-- `WR.CRC_VALUE`: R376, R57. -/
  | wrCrcValue (v : Word)
  /-- `RD.RQ_STATUS`: R370, R58. -/
  | rdRqStatus
  /-- `WR.RQ_STATUS`: R376, R58. -/
  | wrRqStatus (v : Word)
  /-- `RD.RQ_CMD`: R370, R59. -/
  | rdRqCmd
  /-- `WR.RQ_CMD`: R324, R59. -/
  | wrRqCmd (v : Word)
  /-- `RD.RQ_OVF`: R370, R60. -/
  | rdRqOvf
  /-- `WR.RQ_OVF`: R326, R60. -/
  | wrRqOvf (v : Word)
  /-- `RD.R_FLAGS`: R370, R61. -/
  | rdRFlags
  /-- `WR.R_FLAGS`: R376, R61. -/
  | wrRFlags (v : Word)
  /-- `RD.R_PULSES`: R370, R61. -/
  | rdRPulses
  /-- `WR.R_PULSES`: R376, R61. -/
  | wrRPulses (v : Word)
  /-- `RD.R_RAW`: R370, R61. -/
  | rdRRaw
  /-- `WR.R_RAW`: R376, R61. -/
  | wrRRaw (v : Word)
  /-- `RD.R_MIN_INTERVAL`: R370, R61. -/
  | rdRMinInterval
  /-- `WR.R_MIN_INTERVAL`: R376, R61. -/
  | wrRMinInterval (v : Word)
  /-- `RD.R_FREQ_X1E4`: R370, R61. -/
  | rdRFreqX1e4
  /-- `WR.R_FREQ_X1E4`: R376, R61. -/
  | wrRFreqX1e4 (v : Word)
  /-- `RD.R_ELAPSED_LO`: R370, R61. -/
  | rdRElapsedLo
  /-- `WR.R_ELAPSED_LO`: R376, R61. -/
  | wrRElapsedLo (v : Word)
  /-- `RD.R_ELAPSED_HI`: R370, R61. -/
  | rdRElapsedHi
  /-- `WR.R_ELAPSED_HI`: R376, R61. -/
  | wrRElapsedHi (v : Word)
  /-- `RD.R_START_LO`: R370, R61. -/
  | rdRStartLo
  /-- `WR.R_START_LO`: R376, R61. -/
  | wrRStartLo (v : Word)
  /-- `RD.R_START_HI`: R370, R61. -/
  | rdRStartHi
  /-- `WR.R_START_HI`: R376, R61. -/
  | wrRStartHi (v : Word)
  /-- `RD.R_END_LO`: R370, R61. -/
  | rdREndLo
  /-- `WR.R_END_LO`: R376, R61. -/
  | wrREndLo (v : Word)
  /-- `RD.R_END_HI`: R370, R61. -/
  | rdREndHi
  /-- `WR.R_END_HI`: R376, R61. -/
  | wrREndHi (v : Word)
  /-- `RD.FQ_STATUS`: R370, R62. -/
  | rdFqStatus
  /-- `WR.FQ_STATUS`: R376, R62. -/
  | wrFqStatus (v : Word)
  /-- `RD.FQ_CMD`: R370, R63. -/
  | rdFqCmd
  /-- `WR.FQ_CMD`: R328, R63. -/
  | wrFqCmd (v : Word)
  /-- `RD.FQ_OVF`: R370, R64. -/
  | rdFqOvf
  /-- `WR.FQ_OVF`: R329, R64. -/
  | wrFqOvf (v : Word)
  /-- `RD.FQ_PUSH`: R370, R65. -/
  | rdFqPush
  /-- `WR.FQ_PUSH`: R327, R65. -/
  | wrFqPush (v : Word)
  /-- `RD.FQ_DATA`: R370, R66. -/
  | rdFqData
  /-- `WR.FQ_DATA`: R376, R66. -/
  | wrFqData (v : Word)
  /-- `RD.SW_BUF`: R370, R54. -/
  | rdSwBuf (j : BitVec 8)
  /-- `WR.SW_BUF`: R376, R54. -/
  | wrSwBuf (j : BitVec 8) (v : Word)
  /-- `RD.NOW_LO`: R370, R67. -/
  | rdNowLo
  /-- `WR.NOW_LO`: R376, R67. -/
  | wrNowLo (v : Word)
  /-- `RD.NOW_HI`: R370, R67. -/
  | rdNowHi
  /-- `WR.NOW_HI`: R376, R67. -/
  | wrNowHi (v : Word)
  /-- `RD.INT_EN`: R370, R68. -/
  | rdIntEn
  /-- `WR.INT_EN`: R381, R68. -/
  | wrIntEn (v : Word)
  /-- `RD.INT_STAT`: R370, R69. -/
  | rdIntStat
  /-- `WR.INT_STAT`: R376, R69. -/
  | wrIntStat (v : Word)
  /-- `EV.TICK`: R360. -/
  | evTick
  /-- `EV.SIG_HIGH`: R170. -/
  | evSigHigh
  /-- `EV.SIG_LOW`: R175. -/
  | evSigLow
  /-- `EV.SYNC_HIGH`: R176. -/
  | evSyncHigh
  /-- `EV.SYNC_LOW`: R177. -/
  | evSyncLow
  /-- `EV.SWIO_HIGH`: R246. -/
  | evSwioHigh
  /-- `EV.SWIO_LOW`: R247. -/
  | evSwioLow
  /-- `EV.RESET`: R440. -/
  | evReset
  /-- `RD.BUSERR.SIZE8`: R401. -/
  | rdBuserrSize8 (off : Offset)
  /-- `RD.BUSERR.SIZE16`: R401. -/
  | rdBuserrSize16 (off : Offset)
  /-- `RD.BUSERR.SIZE64`: R401. -/
  | rdBuserrSize64 (off : Offset)
  /-- `WR.BUSERR.SIZE8`: R401. -/
  | wrBuserrSize8 (off : Offset) (v : Word)
  /-- `WR.BUSERR.SIZE16`: R401. -/
  | wrBuserrSize16 (off : Offset) (v : Word)
  /-- `WR.BUSERR.SIZE64`: R401. -/
  | wrBuserrSize64 (off : Offset) (v : Word)
  /-- `RD.BUSERR.ALIGN1`: R401. -/
  | rdBuserrAlign1 (w : BitVec 10)
  /-- `RD.BUSERR.ALIGN2`: R401. -/
  | rdBuserrAlign2 (w : BitVec 10)
  /-- `RD.BUSERR.ALIGN3`: R401. -/
  | rdBuserrAlign3 (w : BitVec 10)
  /-- `WR.BUSERR.ALIGN1`: R401. -/
  | wrBuserrAlign1 (w : BitVec 10) (v : Word)
  /-- `WR.BUSERR.ALIGN2`: R401. -/
  | wrBuserrAlign2 (w : BitVec 10) (v : Word)
  /-- `WR.BUSERR.ALIGN3`: R401. -/
  | wrBuserrAlign3 (w : BitVec 10) (v : Word)
  /-- `RD.UNMAPPED`: R375. -/
  | rdUnmapped (w : BitVec 10)
  /-- `WR.UNMAPPED`: R375. -/
  | wrUnmapped (w : BitVec 10) (v : Word)
  /-- `RESERVED.CLASS`: R138. -/
  | reservedClass (low : BitVec 14)
  /-- `RESERVED.EVT.Z4`: R138; bit 4 is the lowest bit set in Z (log entry 7). -/
  | reservedEvtZ4 (hi : BitVec 9) (ev : BitVec 4)
  /-- `RESERVED.EVT.Z5`: R138; bit 5 is the lowest bit set in Z (log entry 7). -/
  | reservedEvtZ5 (hi : BitVec 8) (ev : BitVec 4)
  /-- `RESERVED.EVT.Z6`: R138; bit 6 is the lowest bit set in Z (log entry 7). -/
  | reservedEvtZ6 (hi : BitVec 7) (ev : BitVec 4)
  /-- `RESERVED.EVT.Z7`: R138; bit 7 is the lowest bit set in Z (log entry 7). -/
  | reservedEvtZ7 (hi : BitVec 6) (ev : BitVec 4)
  /-- `RESERVED.EVT.Z8`: R138; bit 8 is the lowest bit set in Z (log entry 7). -/
  | reservedEvtZ8 (hi : BitVec 5) (ev : BitVec 4)
  /-- `RESERVED.EVT.Z9`: R138; bit 9 is the lowest bit set in Z (log entry 7). -/
  | reservedEvtZ9 (hi : BitVec 4) (ev : BitVec 4)
  /-- `RESERVED.EVT.Z10`: R138; bit 10 is the lowest bit set in Z (log entry 7). -/
  | reservedEvtZ10 (hi : BitVec 3) (ev : BitVec 4)
  /-- `RESERVED.EVT.Z11`: R138; bit 11 is the lowest bit set in Z (log entry 7). -/
  | reservedEvtZ11 (hi : BitVec 2) (ev : BitVec 4)
  /-- `RESERVED.EVT.Z12`: R138; bit 12 is the lowest bit set in Z (log entry 7). -/
  | reservedEvtZ12 (hi : BitVec 1) (ev : BitVec 4)
  /-- `RESERVED.EVT.Z13`: R138; bit 13 is the lowest bit set in Z (log entry 7). -/
  | reservedEvtZ13 (ev : BitVec 4)
  /-- `RESERVED.EVT.EV`: R138. -/
  | reservedEvtEv (ev : BitVec 3)
deriving DecidableEq, Repr

end Sys2Proof
end

