-- ==== Sys2Proof/WellFormed.lean ====
section
/-! DEFINITION. The register map (10_state.md R31) and when an operation's operands are ones its
descriptor can carry (30_encoding.md R134 steps 7 and 8). -/

namespace Sys2Proof

/-- The registers of R31 that have one fixed offset, with their offsets. -/
def registerMap : List (String × Nat) :=
  [("CNT_CTRL", 0x000), ("CNT_WINDOW", 0x004), ("CNT_PPM", 0x008),
   ("CNT_FRAC", 0x00C), ("CNT_STATUS", 0x010), ("CNT_CUR_WINDOW", 0x014),
   ("CNT_PULSES", 0x018), ("CNT_RAW", 0x01C), ("CNT_GLITCH", 0x020),
   ("CNT_TARGET", 0x024), ("CNT_MIN_INTERVAL", 0x028), ("CNT_ESTIMATE", 0x02C),
   ("CNT_START_LO", 0x030), ("CNT_START_HI", 0x034), ("CNT_END_LO", 0x038),
   ("CNT_END_HI", 0x03C), ("CNT_ALARM_LO", 0x040), ("CNT_ALARM_HI", 0x044),
   ("SW_CTRL", 0x100), ("SW_STATUS", 0x104), ("SW_BITRATE", 0x108),
   ("SW_HALF", 0x10C), ("SW_ADDR", 0x110), ("SW_LEN", 0x114),
   ("SW_LAST", 0x118), ("CRC_CTRL", 0x200), ("CRC_DATA", 0x204),
   ("CRC_VALUE", 0x208), ("RQ_STATUS", 0x300), ("RQ_CMD", 0x304),
   ("RQ_OVF", 0x308), ("R_FLAGS", 0x30C), ("R_PULSES", 0x310),
   ("R_RAW", 0x314), ("R_MIN_INTERVAL", 0x318), ("R_FREQ_X1E4", 0x31C),
   ("R_ELAPSED_LO", 0x320), ("R_ELAPSED_HI", 0x324), ("R_START_LO", 0x328),
   ("R_START_HI", 0x32C), ("R_END_LO", 0x330), ("R_END_HI", 0x334),
   ("FQ_STATUS", 0x380), ("FQ_CMD", 0x384), ("FQ_OVF", 0x388),
   ("FQ_PUSH", 0x38C), ("FQ_DATA", 0x390), ("NOW_LO", 0xF00),
   ("NOW_HI", 0xF04), ("INT_EN", 0xF08), ("INT_STAT", 0xF0C)]

/-- The number of mapped SW_BUF words, `ceil(BUF_CAP/4)` (R31, R54). -/
def swBufWords (bufCap : Nat) : Nat := (bufCap + 3) / 4

/-- Whether the aligned offset of word `w` is a fixed register's (R31). -/
def isFixedRegister (w : BitVec 10) : Bool := registerMap.any fun r => r.2 == 4 * w.toNat

/-- Whether word `w` lies in SW_BUF and is mapped: `OFF[11:10] = 01` and `OFF[9:2] < ceil(BUF_CAP/4)`
(R134 step 7). -/
def isSwBufWord (bufCap : Nat) (w : BitVec 10) : Bool :=
  decide (0x100 ≤ w.toNat ∧ w.toNat < 0x200 ∧ w.toNat - 0x100 < swBufWords bufCap)

/-- Mapped offsets (R134 step 7). -/
def isMapped (bufCap : Nat) (w : BitVec 10) : Bool := isFixedRegister w || isSwBufWord bufCap w

/-- An operation whose operands its own descriptor can carry: a SW_BUF index below `ceil(BUF_CAP/4)`, and
for an UNMAPPED row a word that is not mapped. The types of the other operands leave nothing to check. -/
def Instr.wellFormed (bufCap : Nat) : Instr → Bool
  | .rdSwBuf j => decide (j.toNat < swBufWords bufCap)
  | .wrSwBuf j _ => decide (j.toNat < swBufWords bufCap)
  | .rdUnmapped w => !isMapped bufCap w
  | .wrUnmapped w _ => !isMapped bufCap w
  | .rdCntCtrl | .wrCntCtrl _ | .rdCntWindow | .wrCntWindow _ | .rdCntPpm | .wrCntPpm _ | .rdCntFrac
  | .wrCntFrac _ | .rdCntStatus | .wrCntStatus _ | .rdCntCurWindow | .wrCntCurWindow _
  | .rdCntPulses | .wrCntPulses _ | .rdCntRaw | .wrCntRaw _ | .rdCntGlitch | .wrCntGlitch _
  | .rdCntTarget | .wrCntTarget _ | .rdCntMinInterval | .wrCntMinInterval _ | .rdCntEstimate
  | .wrCntEstimate _ | .rdCntStartLo | .wrCntStartLo _ | .rdCntStartHi | .wrCntStartHi _
  | .rdCntEndLo | .wrCntEndLo _ | .rdCntEndHi | .wrCntEndHi _ | .rdCntAlarmLo | .wrCntAlarmLo _
  | .rdCntAlarmHi | .wrCntAlarmHi _ | .rdSwCtrl | .wrSwCtrl _ | .rdSwStatus | .wrSwStatus _
  | .rdSwBitrate | .wrSwBitrate _ | .rdSwHalf | .wrSwHalf _ | .rdSwAddr | .wrSwAddr _ | .rdSwLen
  | .wrSwLen _ | .rdSwLast | .wrSwLast _ | .rdCrcCtrl | .wrCrcCtrl _ | .rdCrcData | .wrCrcData _
  | .rdCrcValue | .wrCrcValue _ | .rdRqStatus | .wrRqStatus _ | .rdRqCmd | .wrRqCmd _ | .rdRqOvf
  | .wrRqOvf _ | .rdRFlags | .wrRFlags _ | .rdRPulses | .wrRPulses _ | .rdRRaw | .wrRRaw _
  | .rdRMinInterval | .wrRMinInterval _ | .rdRFreqX1e4 | .wrRFreqX1e4 _ | .rdRElapsedLo
  | .wrRElapsedLo _ | .rdRElapsedHi | .wrRElapsedHi _ | .rdRStartLo | .wrRStartLo _ | .rdRStartHi
  | .wrRStartHi _ | .rdREndLo | .wrREndLo _ | .rdREndHi | .wrREndHi _ | .rdFqStatus | .wrFqStatus _
  | .rdFqCmd | .wrFqCmd _ | .rdFqOvf | .wrFqOvf _ | .rdFqPush | .wrFqPush _ | .rdFqData
  | .wrFqData _ | .rdNowLo | .wrNowLo _ | .rdNowHi | .wrNowHi _ | .rdIntEn | .wrIntEn _ | .rdIntStat
  | .wrIntStat _ | .evTick | .evSigHigh | .evSigLow | .evSyncHigh | .evSyncLow | .evSwioHigh
  | .evSwioLow | .evReset | .rdBuserrSize8 _ | .rdBuserrSize16 _ | .rdBuserrSize64 _
  | .wrBuserrSize8 _ _ | .wrBuserrSize16 _ _ | .wrBuserrSize64 _ _ | .rdBuserrAlign1 _
  | .rdBuserrAlign2 _ | .rdBuserrAlign3 _ | .wrBuserrAlign1 _ _ | .wrBuserrAlign2 _ _
  | .wrBuserrAlign3 _ _ | .reservedClass _ | .reservedEvtZ4 _ _ | .reservedEvtZ5 _ _
  | .reservedEvtZ6 _ _ | .reservedEvtZ7 _ _ | .reservedEvtZ8 _ _ | .reservedEvtZ9 _ _
  | .reservedEvtZ10 _ _ | .reservedEvtZ11 _ _ | .reservedEvtZ12 _ _ | .reservedEvtZ13 _
  | .reservedEvtEv _ => true

/-- Whether an operation is a bus write, the one kind that carries a data operand (R130). -/
def Instr.isWrite : Instr → Bool
  | .wrCntCtrl _ | .wrCntWindow _ | .wrCntPpm _ | .wrCntFrac _ | .wrCntStatus _ | .wrCntCurWindow _
  | .wrCntPulses _ | .wrCntRaw _ | .wrCntGlitch _ | .wrCntTarget _ | .wrCntMinInterval _
  | .wrCntEstimate _ | .wrCntStartLo _ | .wrCntStartHi _ | .wrCntEndLo _ | .wrCntEndHi _
  | .wrCntAlarmLo _ | .wrCntAlarmHi _ | .wrSwCtrl _ | .wrSwStatus _ | .wrSwBitrate _ | .wrSwHalf _
  | .wrSwAddr _ | .wrSwLen _ | .wrSwLast _ | .wrCrcCtrl _ | .wrCrcData _ | .wrCrcValue _
  | .wrRqStatus _ | .wrRqCmd _ | .wrRqOvf _ | .wrRFlags _ | .wrRPulses _ | .wrRRaw _
  | .wrRMinInterval _ | .wrRFreqX1e4 _ | .wrRElapsedLo _ | .wrRElapsedHi _ | .wrRStartLo _
  | .wrRStartHi _ | .wrREndLo _ | .wrREndHi _ | .wrFqStatus _ | .wrFqCmd _ | .wrFqOvf _
  | .wrFqPush _ | .wrFqData _ | .wrSwBuf _ _ | .wrNowLo _ | .wrNowHi _ | .wrIntEn _ | .wrIntStat _
  | .wrBuserrSize8 _ _ | .wrBuserrSize16 _ _ | .wrBuserrSize64 _ _ | .wrBuserrAlign1 _ _
  | .wrBuserrAlign2 _ _ | .wrBuserrAlign3 _ _ | .wrUnmapped _ _ => true
  | .rdCntCtrl | .rdCntWindow | .rdCntPpm | .rdCntFrac | .rdCntStatus | .rdCntCurWindow
  | .rdCntPulses | .rdCntRaw | .rdCntGlitch | .rdCntTarget | .rdCntMinInterval | .rdCntEstimate
  | .rdCntStartLo | .rdCntStartHi | .rdCntEndLo | .rdCntEndHi | .rdCntAlarmLo | .rdCntAlarmHi
  | .rdSwCtrl | .rdSwStatus | .rdSwBitrate | .rdSwHalf | .rdSwAddr | .rdSwLen | .rdSwLast
  | .rdCrcCtrl | .rdCrcData | .rdCrcValue | .rdRqStatus | .rdRqCmd | .rdRqOvf | .rdRFlags
  | .rdRPulses | .rdRRaw | .rdRMinInterval | .rdRFreqX1e4 | .rdRElapsedLo | .rdRElapsedHi
  | .rdRStartLo | .rdRStartHi | .rdREndLo | .rdREndHi | .rdFqStatus | .rdFqCmd | .rdFqOvf
  | .rdFqPush | .rdFqData | .rdSwBuf _ | .rdNowLo | .rdNowHi | .rdIntEn | .rdIntStat | .evTick
  | .evSigHigh | .evSigLow | .evSyncHigh | .evSyncLow | .evSwioHigh | .evSwioLow | .evReset
  | .rdBuserrSize8 _ | .rdBuserrSize16 _ | .rdBuserrSize64 _ | .rdBuserrAlign1 _ | .rdBuserrAlign2 _
  | .rdBuserrAlign3 _ | .rdUnmapped _ | .reservedClass _ | .reservedEvtZ4 _ _ | .reservedEvtZ5 _ _
  | .reservedEvtZ6 _ _ | .reservedEvtZ7 _ _ | .reservedEvtZ8 _ _ | .reservedEvtZ9 _ _
  | .reservedEvtZ10 _ _ | .reservedEvtZ11 _ _ | .reservedEvtZ12 _ _ | .reservedEvtZ13 _
  | .reservedEvtEv _ => false

end Sys2Proof
end

