-- ==== Sys2Proof/Decode.lean ====
section
/-! DEFINITION. The decoder, total on every descriptor (30_encoding.md R134), and the encoder
(R131, R132, R135). An operation's words are its 16-bit descriptor and, for a bus write, its 32-bit data
operand (R130, R136). -/

namespace Sys2Proof

/-! ## Fields (R131, R132) -/

/-- CLASS, bits 15:14. -/
def descClass (d : Descriptor) : BitVec 2 := d.extractLsb' 14 2

/-- SIZE, bits 13:12. -/
def descSize (d : Descriptor) : BitVec 2 := d.extractLsb' 12 2

/-- OFF, bits 11:0. -/
def descOff (d : Descriptor) : Offset := d.extractLsb' 0 12

/-- Z, bits 13:4 of an event descriptor. -/
def descZ (d : Descriptor) : BitVec 10 := d.extractLsb' 4 10

/-- EV, bits 3:0 of an event descriptor. -/
def descEv (d : Descriptor) : BitVec 4 := d.extractLsb' 0 4

/-- The word part `OFF[11:2]` of an offset. -/
def offWord (off : Offset) : BitVec 10 := off.extractLsb' 2 10

/-- The SW_BUF index `j = OFF[9:2]` (R133). -/
def offIndex (off : Offset) : BitVec 8 := off.extractLsb' 2 8

/-! ## Decoding -/

/-- The row of a fixed register's read (R135, offsets of 10_state.md R31). -/
def fixedRead (off : Nat) : Option Instr :=
  match off with
  | 0x000 => some .rdCntCtrl
  | 0x004 => some .rdCntWindow
  | 0x008 => some .rdCntPpm
  | 0x00C => some .rdCntFrac
  | 0x010 => some .rdCntStatus
  | 0x014 => some .rdCntCurWindow
  | 0x018 => some .rdCntPulses
  | 0x01C => some .rdCntRaw
  | 0x020 => some .rdCntGlitch
  | 0x024 => some .rdCntTarget
  | 0x028 => some .rdCntMinInterval
  | 0x02C => some .rdCntEstimate
  | 0x030 => some .rdCntStartLo
  | 0x034 => some .rdCntStartHi
  | 0x038 => some .rdCntEndLo
  | 0x03C => some .rdCntEndHi
  | 0x040 => some .rdCntAlarmLo
  | 0x044 => some .rdCntAlarmHi
  | 0x100 => some .rdSwCtrl
  | 0x104 => some .rdSwStatus
  | 0x108 => some .rdSwBitrate
  | 0x10C => some .rdSwHalf
  | 0x110 => some .rdSwAddr
  | 0x114 => some .rdSwLen
  | 0x118 => some .rdSwLast
  | 0x200 => some .rdCrcCtrl
  | 0x204 => some .rdCrcData
  | 0x208 => some .rdCrcValue
  | 0x300 => some .rdRqStatus
  | 0x304 => some .rdRqCmd
  | 0x308 => some .rdRqOvf
  | 0x30C => some .rdRFlags
  | 0x310 => some .rdRPulses
  | 0x314 => some .rdRRaw
  | 0x318 => some .rdRMinInterval
  | 0x31C => some .rdRFreqX1e4
  | 0x320 => some .rdRElapsedLo
  | 0x324 => some .rdRElapsedHi
  | 0x328 => some .rdRStartLo
  | 0x32C => some .rdRStartHi
  | 0x330 => some .rdREndLo
  | 0x334 => some .rdREndHi
  | 0x380 => some .rdFqStatus
  | 0x384 => some .rdFqCmd
  | 0x388 => some .rdFqOvf
  | 0x38C => some .rdFqPush
  | 0x390 => some .rdFqData
  | 0xF00 => some .rdNowLo
  | 0xF04 => some .rdNowHi
  | 0xF08 => some .rdIntEn
  | 0xF0C => some .rdIntStat
  | _ => none

/-- The row of a fixed register's write (R135, offsets of 10_state.md R31). -/
def fixedWrite (off : Nat) (v : Word) : Option Instr :=
  match off with
  | 0x000 => some (.wrCntCtrl v)
  | 0x004 => some (.wrCntWindow v)
  | 0x008 => some (.wrCntPpm v)
  | 0x00C => some (.wrCntFrac v)
  | 0x010 => some (.wrCntStatus v)
  | 0x014 => some (.wrCntCurWindow v)
  | 0x018 => some (.wrCntPulses v)
  | 0x01C => some (.wrCntRaw v)
  | 0x020 => some (.wrCntGlitch v)
  | 0x024 => some (.wrCntTarget v)
  | 0x028 => some (.wrCntMinInterval v)
  | 0x02C => some (.wrCntEstimate v)
  | 0x030 => some (.wrCntStartLo v)
  | 0x034 => some (.wrCntStartHi v)
  | 0x038 => some (.wrCntEndLo v)
  | 0x03C => some (.wrCntEndHi v)
  | 0x040 => some (.wrCntAlarmLo v)
  | 0x044 => some (.wrCntAlarmHi v)
  | 0x100 => some (.wrSwCtrl v)
  | 0x104 => some (.wrSwStatus v)
  | 0x108 => some (.wrSwBitrate v)
  | 0x10C => some (.wrSwHalf v)
  | 0x110 => some (.wrSwAddr v)
  | 0x114 => some (.wrSwLen v)
  | 0x118 => some (.wrSwLast v)
  | 0x200 => some (.wrCrcCtrl v)
  | 0x204 => some (.wrCrcData v)
  | 0x208 => some (.wrCrcValue v)
  | 0x300 => some (.wrRqStatus v)
  | 0x304 => some (.wrRqCmd v)
  | 0x308 => some (.wrRqOvf v)
  | 0x30C => some (.wrRFlags v)
  | 0x310 => some (.wrRPulses v)
  | 0x314 => some (.wrRRaw v)
  | 0x318 => some (.wrRMinInterval v)
  | 0x31C => some (.wrRFreqX1e4 v)
  | 0x320 => some (.wrRElapsedLo v)
  | 0x324 => some (.wrRElapsedHi v)
  | 0x328 => some (.wrRStartLo v)
  | 0x32C => some (.wrRStartHi v)
  | 0x330 => some (.wrREndLo v)
  | 0x334 => some (.wrREndHi v)
  | 0x380 => some (.wrFqStatus v)
  | 0x384 => some (.wrFqCmd v)
  | 0x388 => some (.wrFqOvf v)
  | 0x38C => some (.wrFqPush v)
  | 0x390 => some (.wrFqData v)
  | 0xF00 => some (.wrNowLo v)
  | 0xF04 => some (.wrNowHi v)
  | 0xF08 => some (.wrIntEn v)
  | 0xF0C => some (.wrIntStat v)
  | _ => none

/-- An aligned 32-bit read: R134 steps 7 and 8. -/
def decodeRead (bufCap : Nat) (off : Offset) : Instr :=
  match fixedRead off.toNat with
  | some i => i
  | none =>
    if isSwBufWord bufCap (offWord off) then .rdSwBuf (offIndex off) else .rdUnmapped (offWord off)

/-- An aligned 32-bit write: R134 steps 7 and 8. -/
def decodeWrite (bufCap : Nat) (off : Offset) (v : Word) : Instr :=
  match fixedWrite off.toNat v with
  | some i => i
  | none =>
    if isSwBufWord bufCap (offWord off) then .wrSwBuf (offIndex off) v else .wrUnmapped (offWord off) v

/-- A read whose SIZE is not 10: R134 step 5. -/
def decodeReadSize (size : BitVec 2) (off : Offset) : Instr :=
  if size = 0b00#2 then .rdBuserrSize8 off
  else if size = 0b01#2 then .rdBuserrSize16 off
  else .rdBuserrSize64 off

/-- A write whose SIZE is not 10: R134 step 5. -/
def decodeWriteSize (size : BitVec 2) (off : Offset) (v : Word) : Instr :=
  if size = 0b00#2 then .wrBuserrSize8 off v
  else if size = 0b01#2 then .wrBuserrSize16 off v
  else .wrBuserrSize64 off v

/-- A 32-bit read with `d[1:0]` not 00: R134 step 6. -/
def decodeReadAlign (low : BitVec 2) (w : BitVec 10) : Instr :=
  if low = 0b01#2 then .rdBuserrAlign1 w
  else if low = 0b10#2 then .rdBuserrAlign2 w
  else .rdBuserrAlign3 w

/-- A 32-bit write with `d[1:0]` not 00: R134 step 6. -/
def decodeWriteAlign (low : BitVec 2) (w : BitVec 10) (v : Word) : Instr :=
  if low = 0b01#2 then .wrBuserrAlign1 w v
  else if low = 0b10#2 then .wrBuserrAlign2 w v
  else .wrBuserrAlign3 w v

/-- Class 00, a bus read: R134 steps 5 to 8. -/
def decodeBusRead (bufCap : Nat) (d : Descriptor) : Instr :=
  if descSize d ≠ 0b10#2 then decodeReadSize (descSize d) (descOff d)
  else if d.extractLsb' 0 2 ≠ 0b00#2 then decodeReadAlign (d.extractLsb' 0 2) (offWord (descOff d))
  else decodeRead bufCap (descOff d)

/-- Class 01, a bus write: R134 steps 5 to 8. -/
def decodeBusWrite (bufCap : Nat) (d : Descriptor) (v : Word) : Instr :=
  if descSize d ≠ 0b10#2 then decodeWriteSize (descSize d) (descOff d) v
  else if d.extractLsb' 0 2 ≠ 0b00#2 then decodeWriteAlign (d.extractLsb' 0 2) (offWord (descOff d)) v
  else decodeWrite bufCap (descOff d) v

/-- Class 10 with Z not 0: R134 step 2. The table has one row per bit of Z; the row of the lowest set bit
names the descriptor (log entry 7). -/
def decodeReservedZ (d : Descriptor) : Instr :=
  if d.getLsbD 4 then .reservedEvtZ4 (d.extractLsb' 5 9) (descEv d)
  else if d.getLsbD 5 then .reservedEvtZ5 (d.extractLsb' 6 8) (descEv d)
  else if d.getLsbD 6 then .reservedEvtZ6 (d.extractLsb' 7 7) (descEv d)
  else if d.getLsbD 7 then .reservedEvtZ7 (d.extractLsb' 8 6) (descEv d)
  else if d.getLsbD 8 then .reservedEvtZ8 (d.extractLsb' 9 5) (descEv d)
  else if d.getLsbD 9 then .reservedEvtZ9 (d.extractLsb' 10 4) (descEv d)
  else if d.getLsbD 10 then .reservedEvtZ10 (d.extractLsb' 11 3) (descEv d)
  else if d.getLsbD 11 then .reservedEvtZ11 (d.extractLsb' 12 2) (descEv d)
  else if d.getLsbD 12 then .reservedEvtZ12 (d.extractLsb' 13 1) (descEv d)
  else .reservedEvtZ13 (descEv d)

/-- The event named by EV (R132). -/
def decodeEventCode (ev : BitVec 3) : Instr :=
  match ev.toNat with
  | 0 => .evTick
  | 1 => .evSigHigh
  | 2 => .evSigLow
  | 3 => .evSyncHigh
  | 4 => .evSyncLow
  | 5 => .evSwioHigh
  | 6 => .evSwioLow
  | _ => .evReset

/-- Class 10: R134 steps 2 to 4. -/
def decodeEvent (d : Descriptor) : Instr :=
  if descZ d ≠ 0#10 then decodeReservedZ d
  else if d.getLsbD 3 then .reservedEvtEv (d.extractLsb' 0 3)
  else decodeEventCode (d.extractLsb' 0 3)

/-- The decoder, total on all descriptors (R134). Reserved descriptors decode to the reserved rows, which
the machine refuses by name (R138). `bufCap` is BUF_CAP, on which step 7 depends. `v` is the data operand,
which only a bus write has (R130). -/
def decode (bufCap : Nat) (d : Descriptor) (v : Word) : Instr :=
  if descClass d = 0b11#2 then .reservedClass (d.extractLsb' 0 14)
  else if descClass d = 0b10#2 then decodeEvent d
  else if descClass d = 0b01#2 then decodeBusWrite bufCap d v
  else decodeBusRead bufCap d

/-- The instruction the decoder reads from bits `w` numbered as the opcode table numbers them: the
descriptor is bits 15:0 and a bus write's data operand bits 47:16 (log entry 8). Fewer bits than a
descriptor has are refused. BUF_CAP is the default. -/
def decodeTableWord (nbits w : Nat) : Option Instr :=
  if nbits < 16 then none
  else
    let bits := w % 2 ^ nbits
    some (decode Config.Params.default.bufCap (BitVec.ofNat 16 bits) (BitVec.ofNat 32 (bits / 2 ^ 16)))

/-! ## Encoding -/

/-- A BUS descriptor: {CLASS, SIZE, OFF} (R131). -/
def busWord (cls size : BitVec 2) (off : Offset) : Descriptor := (cls ++ size ++ off : BitVec 16)

/-- An EVT descriptor: {10, Z, EV} (R132). -/
def evtWord (z : BitVec 10) (ev : BitVec 4) : Descriptor := (0b10#2 ++ z ++ ev : BitVec 16)

/-- A 32-bit read at `off`: `0x2000 | off` (R135). -/
def readWord (off : Offset) : Descriptor := busWord 0b00#2 0b10#2 off

/-- A 32-bit write at `off`: `0x6000 | off` (R135). -/
def writeWord (off : Offset) : Descriptor := busWord 0b01#2 0b10#2 off

/-- An offset from its word part and its low two bits. -/
def mkOff (w : BitVec 10) (low : BitVec 2) : Offset := (w ++ low : BitVec 12)

/-- The offset `0x400 + 4*j` of SW_BUF[j] (10_state.md R54). -/
def swBufOff (j : BitVec 8) : Offset := (0b01#2 ++ j ++ 0b00#2 : BitVec 12)

/-- The words of an operation: its descriptor and its data operand, 0 where it carries none. -/
def encode : Instr → Descriptor × Word
  | .rdCntCtrl => (readWord 0x000#12, 0#32)
  | .wrCntCtrl v => (writeWord 0x000#12, v)
  | .rdCntWindow => (readWord 0x004#12, 0#32)
  | .wrCntWindow v => (writeWord 0x004#12, v)
  | .rdCntPpm => (readWord 0x008#12, 0#32)
  | .wrCntPpm v => (writeWord 0x008#12, v)
  | .rdCntFrac => (readWord 0x00C#12, 0#32)
  | .wrCntFrac v => (writeWord 0x00C#12, v)
  | .rdCntStatus => (readWord 0x010#12, 0#32)
  | .wrCntStatus v => (writeWord 0x010#12, v)
  | .rdCntCurWindow => (readWord 0x014#12, 0#32)
  | .wrCntCurWindow v => (writeWord 0x014#12, v)
  | .rdCntPulses => (readWord 0x018#12, 0#32)
  | .wrCntPulses v => (writeWord 0x018#12, v)
  | .rdCntRaw => (readWord 0x01C#12, 0#32)
  | .wrCntRaw v => (writeWord 0x01C#12, v)
  | .rdCntGlitch => (readWord 0x020#12, 0#32)
  | .wrCntGlitch v => (writeWord 0x020#12, v)
  | .rdCntTarget => (readWord 0x024#12, 0#32)
  | .wrCntTarget v => (writeWord 0x024#12, v)
  | .rdCntMinInterval => (readWord 0x028#12, 0#32)
  | .wrCntMinInterval v => (writeWord 0x028#12, v)
  | .rdCntEstimate => (readWord 0x02C#12, 0#32)
  | .wrCntEstimate v => (writeWord 0x02C#12, v)
  | .rdCntStartLo => (readWord 0x030#12, 0#32)
  | .wrCntStartLo v => (writeWord 0x030#12, v)
  | .rdCntStartHi => (readWord 0x034#12, 0#32)
  | .wrCntStartHi v => (writeWord 0x034#12, v)
  | .rdCntEndLo => (readWord 0x038#12, 0#32)
  | .wrCntEndLo v => (writeWord 0x038#12, v)
  | .rdCntEndHi => (readWord 0x03C#12, 0#32)
  | .wrCntEndHi v => (writeWord 0x03C#12, v)
  | .rdCntAlarmLo => (readWord 0x040#12, 0#32)
  | .wrCntAlarmLo v => (writeWord 0x040#12, v)
  | .rdCntAlarmHi => (readWord 0x044#12, 0#32)
  | .wrCntAlarmHi v => (writeWord 0x044#12, v)
  | .rdSwCtrl => (readWord 0x100#12, 0#32)
  | .wrSwCtrl v => (writeWord 0x100#12, v)
  | .rdSwStatus => (readWord 0x104#12, 0#32)
  | .wrSwStatus v => (writeWord 0x104#12, v)
  | .rdSwBitrate => (readWord 0x108#12, 0#32)
  | .wrSwBitrate v => (writeWord 0x108#12, v)
  | .rdSwHalf => (readWord 0x10C#12, 0#32)
  | .wrSwHalf v => (writeWord 0x10C#12, v)
  | .rdSwAddr => (readWord 0x110#12, 0#32)
  | .wrSwAddr v => (writeWord 0x110#12, v)
  | .rdSwLen => (readWord 0x114#12, 0#32)
  | .wrSwLen v => (writeWord 0x114#12, v)
  | .rdSwLast => (readWord 0x118#12, 0#32)
  | .wrSwLast v => (writeWord 0x118#12, v)
  | .rdCrcCtrl => (readWord 0x200#12, 0#32)
  | .wrCrcCtrl v => (writeWord 0x200#12, v)
  | .rdCrcData => (readWord 0x204#12, 0#32)
  | .wrCrcData v => (writeWord 0x204#12, v)
  | .rdCrcValue => (readWord 0x208#12, 0#32)
  | .wrCrcValue v => (writeWord 0x208#12, v)
  | .rdRqStatus => (readWord 0x300#12, 0#32)
  | .wrRqStatus v => (writeWord 0x300#12, v)
  | .rdRqCmd => (readWord 0x304#12, 0#32)
  | .wrRqCmd v => (writeWord 0x304#12, v)
  | .rdRqOvf => (readWord 0x308#12, 0#32)
  | .wrRqOvf v => (writeWord 0x308#12, v)
  | .rdRFlags => (readWord 0x30C#12, 0#32)
  | .wrRFlags v => (writeWord 0x30C#12, v)
  | .rdRPulses => (readWord 0x310#12, 0#32)
  | .wrRPulses v => (writeWord 0x310#12, v)
  | .rdRRaw => (readWord 0x314#12, 0#32)
  | .wrRRaw v => (writeWord 0x314#12, v)
  | .rdRMinInterval => (readWord 0x318#12, 0#32)
  | .wrRMinInterval v => (writeWord 0x318#12, v)
  | .rdRFreqX1e4 => (readWord 0x31C#12, 0#32)
  | .wrRFreqX1e4 v => (writeWord 0x31C#12, v)
  | .rdRElapsedLo => (readWord 0x320#12, 0#32)
  | .wrRElapsedLo v => (writeWord 0x320#12, v)
  | .rdRElapsedHi => (readWord 0x324#12, 0#32)
  | .wrRElapsedHi v => (writeWord 0x324#12, v)
  | .rdRStartLo => (readWord 0x328#12, 0#32)
  | .wrRStartLo v => (writeWord 0x328#12, v)
  | .rdRStartHi => (readWord 0x32C#12, 0#32)
  | .wrRStartHi v => (writeWord 0x32C#12, v)
  | .rdREndLo => (readWord 0x330#12, 0#32)
  | .wrREndLo v => (writeWord 0x330#12, v)
  | .rdREndHi => (readWord 0x334#12, 0#32)
  | .wrREndHi v => (writeWord 0x334#12, v)
  | .rdFqStatus => (readWord 0x380#12, 0#32)
  | .wrFqStatus v => (writeWord 0x380#12, v)
  | .rdFqCmd => (readWord 0x384#12, 0#32)
  | .wrFqCmd v => (writeWord 0x384#12, v)
  | .rdFqOvf => (readWord 0x388#12, 0#32)
  | .wrFqOvf v => (writeWord 0x388#12, v)
  | .rdFqPush => (readWord 0x38C#12, 0#32)
  | .wrFqPush v => (writeWord 0x38C#12, v)
  | .rdFqData => (readWord 0x390#12, 0#32)
  | .wrFqData v => (writeWord 0x390#12, v)
  | .rdSwBuf j => (readWord (swBufOff j), 0#32)
  | .wrSwBuf j v => (writeWord (swBufOff j), v)
  | .rdNowLo => (readWord 0xF00#12, 0#32)
  | .wrNowLo v => (writeWord 0xF00#12, v)
  | .rdNowHi => (readWord 0xF04#12, 0#32)
  | .wrNowHi v => (writeWord 0xF04#12, v)
  | .rdIntEn => (readWord 0xF08#12, 0#32)
  | .wrIntEn v => (writeWord 0xF08#12, v)
  | .rdIntStat => (readWord 0xF0C#12, 0#32)
  | .wrIntStat v => (writeWord 0xF0C#12, v)
  | .evTick => (evtWord 0#10 0#4, 0#32)
  | .evSigHigh => (evtWord 0#10 1#4, 0#32)
  | .evSigLow => (evtWord 0#10 2#4, 0#32)
  | .evSyncHigh => (evtWord 0#10 3#4, 0#32)
  | .evSyncLow => (evtWord 0#10 4#4, 0#32)
  | .evSwioHigh => (evtWord 0#10 5#4, 0#32)
  | .evSwioLow => (evtWord 0#10 6#4, 0#32)
  | .evReset => (evtWord 0#10 7#4, 0#32)
  | .rdBuserrSize8 off => (busWord 0b00#2 0b00#2 off, 0#32)
  | .rdBuserrSize16 off => (busWord 0b00#2 0b01#2 off, 0#32)
  | .rdBuserrSize64 off => (busWord 0b00#2 0b11#2 off, 0#32)
  | .wrBuserrSize8 off v => (busWord 0b01#2 0b00#2 off, v)
  | .wrBuserrSize16 off v => (busWord 0b01#2 0b01#2 off, v)
  | .wrBuserrSize64 off v => (busWord 0b01#2 0b11#2 off, v)
  | .rdBuserrAlign1 w => (readWord (mkOff w 0b01#2), 0#32)
  | .rdBuserrAlign2 w => (readWord (mkOff w 0b10#2), 0#32)
  | .rdBuserrAlign3 w => (readWord (mkOff w 0b11#2), 0#32)
  | .wrBuserrAlign1 w v => (writeWord (mkOff w 0b01#2), v)
  | .wrBuserrAlign2 w v => (writeWord (mkOff w 0b10#2), v)
  | .wrBuserrAlign3 w v => (writeWord (mkOff w 0b11#2), v)
  | .rdUnmapped w => (readWord (mkOff w 0b00#2), 0#32)
  | .wrUnmapped w v => (writeWord (mkOff w 0b00#2), v)
  | .reservedClass low => ((0b11#2 ++ low : BitVec 16), 0#32)
  | .reservedEvtZ4 hi ev => (evtWord (hi ++ 0b1#1 : BitVec 10) ev, 0#32)
  | .reservedEvtZ5 hi ev => (evtWord (hi ++ 0b10#2 : BitVec 10) ev, 0#32)
  | .reservedEvtZ6 hi ev => (evtWord (hi ++ 0b100#3 : BitVec 10) ev, 0#32)
  | .reservedEvtZ7 hi ev => (evtWord (hi ++ 0b1000#4 : BitVec 10) ev, 0#32)
  | .reservedEvtZ8 hi ev => (evtWord (hi ++ 0b10000#5 : BitVec 10) ev, 0#32)
  | .reservedEvtZ9 hi ev => (evtWord (hi ++ 0b100000#6 : BitVec 10) ev, 0#32)
  | .reservedEvtZ10 hi ev => (evtWord (hi ++ 0b1000000#7 : BitVec 10) ev, 0#32)
  | .reservedEvtZ11 hi ev => (evtWord (hi ++ 0b10000000#8 : BitVec 10) ev, 0#32)
  | .reservedEvtZ12 hi ev => (evtWord (hi ++ 0b100000000#9 : BitVec 10) ev, 0#32)
  | .reservedEvtZ13 ev => (evtWord (0b1000000000#10 : BitVec 10) ev, 0#32)
  | .reservedEvtEv ev => (evtWord 0#10 (0b1#1 ++ ev : BitVec 4), 0#32)

end Sys2Proof
end

