-- ==== Sys2Proof/Machine/State.lean ====
section
/-! DEFINITION. The state of RPS-FC as plain data (10_state.md R30 to R74) and its reset values
(70_reset_and_hazards.md R441). -/

namespace Sys2Proof.Machine

/-! ## Reasons to stop -/

/-- Reasons the machine stops with a fault: none. RPS-FC never halts (60_exceptions.md R400), no agent is
ever stuck (70_reset_and_hazards.md R476), and a bus error is an answer after which the block goes on
(R401), so a fault type with no constructor is exact. -/
inductive Fault where
deriving DecidableEq, Repr

/-- Reasons an operation is refused: no step, no state change. -/
inductive Refusal where
  /-- An arm of `exec` that has no meaning yet. Raised by no arm of this model. Safe. -/
  | notModelled (mnemonic : String)
  /-- RESERVED.CLASS: class 11 spells no operation (30_encoding.md R138). Raised by its meaning. Safe. -/
  | reservedClass
  /-- RESERVED.EVT.Z4 to Z13: class 10 with `d[13:4]` not 0 spells no operation (R138). Raised by their
  meanings. Safe. -/
  | reservedEventBits
  /-- RESERVED.EVT.EV: class 10 with `d[3:0]` 8 or more spells no operation (R138). Raised by its
  meaning. Safe. -/
  | reservedEventCode
  /-- An agent has no move for what it was to perform: a core an event, or the environment a bus access
  (70_reset_and_hazards.md R475). Raised by `step` before it performs the operation. Safe. -/
  | agentHasNoMove
  /-- A parameter outside the ranges of 00_scope.md R8 (R9). Raised by `step` before it decodes. Safe. -/
  | parameterOutOfRange
deriving DecidableEq, Repr

/-! ## Bus requests and answers -/

/-- The kinds of bus error (60_exceptions.md R401, R402). -/
inductive BusError where
  /-- The access is not 32 bits wide. -/
  | size
  /-- A 32-bit access with `OFF[1:0]` not 00. -/
  | align
deriving DecidableEq, Repr

/-- The bus response of the operation just performed (10_state.md R74; 30_encoding.md R131). -/
inductive Response where
  /-- An event has no response (R132); nothing has been answered yet after reset. -/
  | none
  /-- A read's answer. -/
  | data (v : Word)
  /-- A write's acknowledge (44_timebase_irq.md R371). -/
  | ack
  /-- An error response (60_exceptions.md R401). -/
  | error (k : BusError)
deriving DecidableEq, Repr

/-- An operation an agent performs: who, the descriptor, and the data operand of a bus write (R130). -/
structure Request where
  agent : Agent
  desc : Descriptor
  data : Word
deriving DecidableEq, Repr

/-! ## Frequency counter -/

/-- Counting modes, encoded 0 and 1 (10_state.md R32). -/
inductive Mode where
  | gated
  | recip
deriving DecidableEq, Repr

/-- The counter's configuration registers (R32 to R35). -/
structure CounterConfig where
  /-- CNT_CTRL.MODE. -/
  mode : Mode
  /-- CNT_WINDOW.WINDOW_MS. -/
  windowMs : Half
  /-- CNT_PPM.PPM_X100, two's complement, 0.01 ppm. -/
  ppmX100 : Half
  /-- CNT_FRAC.FRAC, unsigned Q0.16. -/
  frac : Half
deriving DecidableEq, Repr

/-- The live counter state (R70). -/
structure Counter where
  armed : Bool
  windowOpen : Bool
  syncForced : Bool
  edgeSeen : Bool
  mode : Mode
  windowMs : Half
  pulses : Word
  raw : Word
  glitch : Word
  target : Word
  minInterval : Word
  estX1e4 : Word
  startUs : Stamp
  endUs : Stamp
  alarmPending : Bool
  alarmUs : Stamp
  sigLevel : Bool
  syncLevel : Bool
deriving DecidableEq, Repr

/-- What ends a window (40_counter.md R179). -/
inductive Cause where
  | target
  | alarm
  | sync
deriving DecidableEq, Repr

/-- A result record (10_state.md R72, 40_counter.md R184). -/
structure ResultRec where
  mode : Mode
  syncForced : Bool
  timeout : Bool
  pulses : Word
  raw : Word
  minInterval : Word
  freqX1e4 : Word
  elapsedUs : Stamp
  startUs : Stamp
  endUs : Stamp
deriving DecidableEq, Repr

/-- The record with every field 0, which the result latch holds after reset (R61, R72). -/
def ResultRec.zero : ResultRec where
  mode := .gated
  syncForced := false
  timeout := false
  pulses := 0
  raw := 0
  minInterval := 0
  freqX1e4 := 0
  elapsedUs := 0
  startUs := 0
  endUs := 0

/-! ## Queues -/

/-- A bounded queue with its latch, its VALID flag and its overflow count (43_queues.md R320). -/
structure Queue (α : Type) where
  /-- The entries, oldest first. -/
  entries : List α
  /-- The entry most recently popped. -/
  latch : α
  /-- The last POP returned an entry. -/
  valid : Bool
  /-- Evictions, saturating. -/
  ovf : Word
deriving DecidableEq, Repr

/-! ## Single-wire engine -/

/-- The data buffer SW_BUF (R54) as the sorted list of its bytes that are not 0x00. -/
abbrev Memory := List Host.Cell

/-- What a byte of the buffer that is not listed reads as: buffer bytes are reset to 0x00 (R54). -/
def Memory.unlisted : Byte := 0x00#8

/-- The canonical form: addresses strictly rising, no entry that reads as an unlisted byte. -/
abbrev Memory.wf (m : Memory) : Prop :=
  m.Pairwise (fun x y => x.1 < y.1) ∧ ∀ c ∈ m, c.2 ≠ Memory.unlisted

/-- The engine's configuration registers (R49, R51, R52). -/
structure EngineConfig where
  /-- SW_BITRATE. -/
  bitrate : Word
  /-- SW_ADDR.ADDR. -/
  addr : Half
  /-- SW_LEN.LEN. -/
  len : Half
deriving DecidableEq, Repr

/-- Result codes 0 to 3 (60_exceptions.md R405). -/
inductive SwResult where
  | ok
  | noDevice
  | ioError
  | range
deriving DecidableEq, Repr

/-- The sequencer points (10_state.md R71). -/
inductive SeqPoint where
  | idle
  | wStby
  | wHdr
  | wTx1
  | wTx2
  | wRx1
  | wRx2
  | wRx3
deriving DecidableEq, Repr

/-- Which part of the transaction is in progress (41_single_wire.md R237, the comment column). -/
inductive Phase where
  | stby
  | hdr
  | start
  | devaddr
  | sak1
  | cmd
  | sak2
  | addrh
  | sak3
  | addrl
  | sak4
  | data
  | mak
deriving DecidableEq, Repr

/-- What a received bit decodes to (41_single_wire.md R234). -/
inductive RxBit where
  | zero
  | one
  | idle
  | error
deriving DecidableEq, Repr

/-- The engine's state: outcome, buffer, suspended process, line driver and input level (R71, R74). -/
structure Engine where
  busy : Bool
  done : Bool
  result : SwResult
  dev : Byte
  len : Half
  lastValid : Bool
  lastDev : Byte
  lastLen : Half
  buf : Memory
  sp : SeqPoint
  /-- `st.sw_wait`. -/
  wait : Word
  /-- `st.sw_H`, the half-bit period latched at START. -/
  h : Byte
  /-- `st.sw_A`. -/
  a : Half
  /-- `st.sw_L`. -/
  l : Half
  /-- `st.sw_d`, the device address being tried. -/
  d : Byte
  /-- `st.sw_i`, the data byte in progress. -/
  i : Half
  /-- `st.sw_k`, the bit in progress. -/
  k : BitVec 3
  phase : Phase
  /-- `st.sw_tx`, the byte being sent. -/
  tx : Byte
  /-- `st.sw_bit`, the bit being sent. -/
  bit : Bool
  /-- `st.sw_rx`, the byte being received. -/
  rx : Byte
  s1 : Bool
  s2 : Bool
  /-- Line driver enable; false is released. -/
  oe : Bool
  /-- Driven value. -/
  out : Bool
  /-- SWIO input level, as the environment last set it. -/
  swioIn : Bool
deriving DecidableEq, Repr

/-! ## The machine -/

/-- The state. `params` never changes; `pending`, `response` and `faults` are the model's own fields (log
entries 1, 5, 6); all others are the spec's. -/
structure State where
  /-- The OPEN parameters of this run (00_scope.md R8; log entry 3). -/
  params : Config.Params
  /-- The operations still to be performed, in the total order of 20_memory.md R111. -/
  pending : List Request
  /-- The bus response of the last operation (10_state.md R74). -/
  response : Response
  /-- The bus errors recorded against the agents that caused them (70_reset_and_hazards.md R476). -/
  faults : List (Agent × BusError)
  cntCfg : CounterConfig
  cnt : Counter
  swCfg : EngineConfig
  sw : Engine
  /-- CRC_VALUE (R73). -/
  crc : Half
  rq : Queue ResultRec
  fq : Queue Word
  /-- The timebase (R70). -/
  nowUs : Stamp
  /-- INT_EN (R73). -/
  intEn : BitVec 3
deriving DecidableEq, Repr

/-! ## Reset (R441) -/

/-- Reset values of the counter's configuration. -/
def CounterConfig.reset : CounterConfig where
  mode := .gated
  windowMs := Config.windowReset
  ppmX100 := 0
  frac := Config.fracReset

/-- Reset values of the live counter state. -/
def Counter.reset : Counter where
  armed := false
  windowOpen := false
  syncForced := false
  edgeSeen := false
  mode := .gated
  windowMs := 0
  pulses := 0
  raw := 0
  glitch := 0
  target := 64
  minInterval := 0
  estX1e4 := 0
  startUs := 0
  endUs := 0
  alarmPending := false
  alarmUs := 0
  sigLevel := false
  syncLevel := false

/-- Reset values of the engine's configuration. -/
def EngineConfig.reset : EngineConfig where
  bitrate := Config.bitrateReset
  addr := 0
  len := 0

/-- Reset values of the engine; the SWIO input reads IDLE_LEVEL. DEDUCED: phase 0 is STBY (log entry 10). -/
def Engine.reset (idleLevel : Bool) : Engine where
  busy := false
  done := false
  result := .ok
  dev := 0
  len := 0
  lastValid := false
  lastDev := 0
  lastLen := 0
  buf := []
  sp := .idle
  wait := 0
  h := 0
  a := 0
  l := 0
  d := 0
  i := 0
  k := 0
  phase := .stby
  tx := 0
  bit := false
  rx := 0
  s1 := false
  s2 := false
  oe := false
  out := false
  swioIn := idleLevel

/-- An empty queue whose latch holds `zero`. -/
def Queue.reset {α : Type} (zero : α) : Queue α where
  entries := []
  latch := zero
  valid := false
  ovf := 0

/-- The reset state under the parameters `p`: the table of R441, no operation pending, no response, no
fault recorded (R477). -/
def State.resetWith (p : Config.Params) : State where
  params := p
  pending := []
  response := .none
  faults := []
  cntCfg := CounterConfig.reset
  cnt := Counter.reset
  swCfg := EngineConfig.reset
  sw := Engine.reset p.idleLevel
  crc := Config.crcInit
  rq := Queue.reset ResultRec.zero
  fq := Queue.reset 0
  nowUs := 0
  intEn := 0

/-- The machine right after reset, with the parameters' defaults (log entry 3). -/
def State.reset : State := State.resetWith Config.Params.default

end Sys2Proof.Machine
end

