-- ==== Sys2Proof/Machine/Ops.lean ====
section
/-! DEFINITION. The operations every meaning is written over: one setter per part of the state, the bus
answers, the bus error, the data buffer, the queues, saturation, and taking the next request. -/

namespace Sys2Proof.Machine

/-! ## Parts of the state -/

def State.setPending (s : State) (x : List Request) : State := { s with pending := x }
def State.setResponse (s : State) (x : Response) : State := { s with response := x }
def State.setFaults (s : State) (x : List (Agent × BusError)) : State := { s with faults := x }
def State.setCntCfg (s : State) (x : CounterConfig) : State := { s with cntCfg := x }
def State.setCnt (s : State) (x : Counter) : State := { s with cnt := x }
def State.setSwCfg (s : State) (x : EngineConfig) : State := { s with swCfg := x }
def State.setSw (s : State) (x : Engine) : State := { s with sw := x }
def State.setCrc (s : State) (x : Half) : State := { s with crc := x }
def State.setRq (s : State) (x : Queue ResultRec) : State := { s with rq := x }
def State.setFq (s : State) (x : Queue Word) : State := { s with fq := x }
def State.setNow (s : State) (x : Stamp) : State := { s with nowUs := x }
def State.setIntEn (s : State) (x : BitVec 3) : State := { s with intEn := x }

/-! ## Answers -/

/-- A read answers its register's image and changes nothing (20_memory.md R107; 44_timebase_irq.md R370). -/
def answer (v : Word) (s : State) : State := s.setResponse (.data v)

/-- A good write is acknowledged, whether or not it changed anything (44_timebase_irq.md R371). -/
def acknowledge (s : State) : State := s.setResponse .ack

/-- An event has no response (30_encoding.md R132). -/
def noResponse (s : State) : State := s.setResponse .none

/-- Raising a bus error: the access is answered with an error response and changes no state. Nothing about
it is kept in the block, and there is no trap entry and no return from one (60_exceptions.md R401, R411,
R412). -/
def raiseBusError (k : BusError) (s : State) : State := s.setResponse (.error k)

/-- The numeric codes of error responses (60_exceptions.md R402). -/
def busErrorCode : BusError → Nat
  | .size => 1
  | .align => 2

/-! ## Bus addresses -/

/-- The effective bus address of an offset, `BASE + OFF` (20_memory.md R116). -/
def busAddress (p : Config.Params) (off : Offset) : Nat := p.base + off.toNat

/-- The offset a bus address names, if it lies in the block's window (20_memory.md R100). -/
def busOffset (p : Config.Params) (addr : Nat) : Option Offset :=
  if p.base ≤ addr ∧ addr < p.base + Config.windowBytes then some (BitVec.ofNat 12 (addr - p.base))
  else none

/-! ## Saturation -/

/-- `sat32(v) = min(v, 2^32 - 1)` (00_scope.md R10). -/
def sat32 (v : Nat) : Word := BitVec.ofNat 32 (min v (2 ^ 32 - 1))

/-- A count incremented with `sat32` (40_counter.md R169; 43_queues.md R321). -/
def satInc (w : Word) : Word := sat32 (w.toNat + 1)

/-! ## The data buffer (10_state.md R54) -/

/-- The byte at an index of the buffer. -/
def Memory.read : Memory → Nat → Byte
  | [], _ => Memory.unlisted
  | c :: m, a => if c.1 = a then c.2 else Memory.read m a

/-- Puts `b` at index `a` in a list of strictly rising addresses. -/
def Memory.insert : Memory → Nat → Byte → Memory
  | [], a, b => [(a, b)]
  | c :: m, a, b =>
    if a < c.1 then (a, b) :: c :: m
    else if a = c.1 then (a, b) :: m
    else c :: Memory.insert m a b

/-- Removes the entry at index `a`. -/
def Memory.erase : Memory → Nat → Memory
  | [], _ => []
  | c :: m, a => if c.1 = a then m else c :: Memory.erase m a

/-- Writes a byte, keeping the canonical form. -/
def Memory.write (m : Memory) (a : Nat) (b : Byte) : Memory :=
  if b = Memory.unlisted then Memory.erase m a else Memory.insert m a b

/-! ## The queues (43_queues.md R321) -/

/-- Evict-oldest-then-insert, one step. -/
def Queue.push {α : Type} (depth : Nat) (q : Queue α) (x : α) : Queue α :=
  if q.entries.length = depth then
    { q with entries := q.entries.tail ++ [x], ovf := satInc q.ovf }
  else { q with entries := q.entries ++ [x] }

/-- Moves the oldest entry into the latch; on an empty queue clears VALID and keeps the latch. -/
def Queue.pop {α : Type} (q : Queue α) : Queue α :=
  match q.entries with
  | x :: rest => { q with entries := rest, latch := x, valid := true }
  | [] => { q with valid := false }

/-- Any write to an OVF register clears it (R326, R329). -/
def Queue.clearOvf {α : Type} (q : Queue α) : Queue α := { q with ovf := 0 }

/-! ## Requests -/

/-- The next operation in the total order, and the state with it taken (20_memory.md R111). -/
def takeRequest (s : State) : Option (Request × State) :=
  match s.pending with
  | [] => none
  | r :: rest => some (r, s.setPending rest)

/-- Decodes a request under the machine's BUF_CAP (30_encoding.md R134). -/
def decodeRequest (s : State) (r : Request) : Instr := decode s.params.bufCap r.desc r.data

/-- Whether the request's agent has a move for it: a core issues bus accesses and the environment events
(20_memory.md R110; 70_reset_and_hazards.md R475). Class 11 spells no operation of anybody's, and its own
meaning refuses it (log entry 9). -/
def Request.proper (r : Request) : Bool :=
  match r.agent with
  | .core _ => descClass r.desc != 0b10#2
  | .environment => descClass r.desc == 0b10#2 || descClass r.desc == 0b11#2

/-- Records a bus error against the agent that caused it (70_reset_and_hazards.md R476). -/
def recordFault (a : Agent) (s : State) : State :=
  match s.response with
  | .error k => s.setFaults (s.faults ++ [(a, k)])
  | _ => s

/-- The agents that may issue a descriptor of each class: cores issue bus accesses, the environment issues
events (20_memory.md R110; 70_reset_and_hazards.md R475). -/
def agentOfClass (d : Descriptor) : Agent :=
  if descClass d = 0b10#2 then .environment else .core .coreA

end Sys2Proof.Machine
end

