-- ==== Sys2Proof/Machine/Operands.lean ====
section
/-! DEFINITION. The fields of a write's data operand, the packing of fields into register images, and the
images of the registers that hold data (10_state.md R32 to R67). -/

namespace Sys2Proof.Machine

/-! ## Fields of the data operand `v` (30_encoding.md R133) -/

/-- `v[0]`: MODE, START, INIT, POP. -/
def vBit0 (v : Word) : Bool := v.getLsbD 0

/-- `v[1]`: ARM, CLR_DONE. -/
def vBit1 (v : Word) : Bool := v.getLsbD 1

/-- `v[2:0]`. -/
def vLow3 (v : Word) : BitVec 3 := v.extractLsb' 0 3

/-- `v[7:0]`. -/
def vLow8 (v : Word) : Byte := v.extractLsb' 0 8

/-- `v[15:0]`. -/
def vLow16 (v : Word) : Half := v.extractLsb' 0 16

/-! ## Packing -/

/-- A one-bit field at bit `n` of an image whose other bits are 0 (R378). -/
def bitAt (n : Nat) (b : Bool) : Word := (BitVec.ofBool b).setWidth 32 <<< n

/-- A field whose lowest bit is bit `n` of an image whose other bits are 0 (R378). -/
def fieldAt {w : Nat} (n : Nat) (x : BitVec w) : Word := x.setWidth 32 <<< n

/-- The `_LO` half of a 64-bit value (20_memory.md R104). -/
def lo32 (x : Stamp) : Word := x.extractLsb' 0 32

/-- The `_HI` half of a 64-bit value (20_memory.md R104). -/
def hi32 (x : Stamp) : Word := x.extractLsb' 32 32

/-! ## Encodings of enumerated fields -/

/-- 0 GATED, 1 RECIP (R32). -/
def Mode.bit : Mode → Bool
  | .gated => false
  | .recip => true

/-- The mode a MODE bit names (R32). -/
def Mode.ofBit (b : Bool) : Mode := if b then .recip else .gated

/-- RESULT codes (60_exceptions.md R405). -/
def SwResult.code : SwResult → BitVec 2
  | .ok => 0
  | .noDevice => 1
  | .ioError => 2
  | .range => 3

/-! ## Counter images (R32 to R46) -/

def cntCtrlImage (s : State) : Word := bitAt 0 s.cntCfg.mode.bit
def cntWindowImage (s : State) : Word := fieldAt 0 s.cntCfg.windowMs
def cntPpmImage (s : State) : Word := fieldAt 0 s.cntCfg.ppmX100
def cntFracImage (s : State) : Word := fieldAt 0 s.cntCfg.frac
def cntCurWindowImage (s : State) : Word := fieldAt 0 s.cnt.windowMs

/-! ## Single-wire images (R49 to R54) -/

/-- `half_us(b)` (41_single_wire.md R232): 5 to 200 microseconds. -/
def halfUs (b : Word) : Byte :=
  if b.toNat = 0 then BitVec.ofNat 8 Config.halfMaxUs
  else BitVec.ofNat 8 (max Config.halfMinUs (min (500000 / b.toNat) Config.halfMaxUs))

def swHalfImage (s : State) : Word := fieldAt 0 (halfUs s.swCfg.bitrate)
def swAddrImage (s : State) : Word := fieldAt 0 s.swCfg.addr
def swLenImage (s : State) : Word := fieldAt 0 s.swCfg.len

/-- A buffer byte as SW_BUF shows it: an index at or above BUF_CAP reads 0 (R54). -/
def swBufByte (s : State) (n : Nat) : Byte :=
  if n < s.params.bufCap then Memory.read s.sw.buf n else 0

/-- SW_BUF[j], little-endian (R54). -/
def swBufImage (j : BitVec 8) (s : State) : Word :=
  fieldAt 0 (swBufByte s (4 * j.toNat)) ||| fieldAt 8 (swBufByte s (4 * j.toNat + 1)) |||
    fieldAt 16 (swBufByte s (4 * j.toNat + 2)) ||| fieldAt 24 (swBufByte s (4 * j.toNat + 3))

/-! ## CRC and interrupt enable images (R57, R68) -/

def crcValueImage (s : State) : Word := fieldAt 0 s.crc
def intEnImage (s : State) : Word := fieldAt 0 s.intEn

end Sys2Proof.Machine
end

