-- ==== Sys2Proof/Machine/Access.lean ====
section
/-! DEFINITION. Unmapped offsets and bus errors (44_timebase_irq.md R375; 60_exceptions.md R401). -/

namespace Sys2Proof.Machine

/-- RD.BUSERR.SIZE8: an 8-bit read (R401, R402). -/
def execRdBuserrSize8 (_off : Offset) (s : State) : Host.Outcome State Fault Refusal :=
  .next (raiseBusError .size s)

/-- RD.BUSERR.SIZE16: a 16-bit read (R401, R402). -/
def execRdBuserrSize16 (_off : Offset) (s : State) : Host.Outcome State Fault Refusal :=
  .next (raiseBusError .size s)

/-- RD.BUSERR.SIZE64: a 64-bit read (R401, R402). -/
def execRdBuserrSize64 (_off : Offset) (s : State) : Host.Outcome State Fault Refusal :=
  .next (raiseBusError .size s)

/-- WR.BUSERR.SIZE8: an 8-bit write (R401, R402). -/
def execWrBuserrSize8 (_off : Offset) (_v : Word) (s : State) : Host.Outcome State Fault Refusal :=
  .next (raiseBusError .size s)

/-- WR.BUSERR.SIZE16: a 16-bit write (R401, R402). -/
def execWrBuserrSize16 (_off : Offset) (_v : Word) (s : State) : Host.Outcome State Fault Refusal :=
  .next (raiseBusError .size s)

/-- WR.BUSERR.SIZE64: a 64-bit write (R401, R402). -/
def execWrBuserrSize64 (_off : Offset) (_v : Word) (s : State) : Host.Outcome State Fault Refusal :=
  .next (raiseBusError .size s)

/-- RD.BUSERR.ALIGN1: a 32-bit read with `OFF[1:0]` = 1 (R401, R402). -/
def execRdBuserrAlign1 (_w : BitVec 10) (s : State) : Host.Outcome State Fault Refusal :=
  .next (raiseBusError .align s)

/-- RD.BUSERR.ALIGN2: a 32-bit read with `OFF[1:0]` = 2 (R401, R402). -/
def execRdBuserrAlign2 (_w : BitVec 10) (s : State) : Host.Outcome State Fault Refusal :=
  .next (raiseBusError .align s)

/-- RD.BUSERR.ALIGN3: a 32-bit read with `OFF[1:0]` = 3 (R401, R402). -/
def execRdBuserrAlign3 (_w : BitVec 10) (s : State) : Host.Outcome State Fault Refusal :=
  .next (raiseBusError .align s)

/-- WR.BUSERR.ALIGN1: a 32-bit write with `OFF[1:0]` = 1 (R401, R402). -/
def execWrBuserrAlign1 (_w : BitVec 10) (_v : Word) (s : State) : Host.Outcome State Fault Refusal :=
  .next (raiseBusError .align s)

/-- WR.BUSERR.ALIGN2: a 32-bit write with `OFF[1:0]` = 2 (R401, R402). -/
def execWrBuserrAlign2 (_w : BitVec 10) (_v : Word) (s : State) : Host.Outcome State Fault Refusal :=
  .next (raiseBusError .align s)

/-- WR.BUSERR.ALIGN3: a 32-bit write with `OFF[1:0]` = 3 (R401, R402). -/
def execWrBuserrAlign3 (_w : BitVec 10) (_v : Word) (s : State) : Host.Outcome State Fault Refusal :=
  .next (raiseBusError .align s)

/-- RD.UNMAPPED: an aligned 32-bit read of an unmapped offset answers 0 (R375). -/
def execRdUnmapped (_w : BitVec 10) (s : State) : Host.Outcome State Fault Refusal :=
  .next (answer 0 s)

/-- WR.UNMAPPED: an aligned 32-bit write to an unmapped offset is acknowledged and ignored (R375). -/
def execWrUnmapped (_w : BitVec 10) (_v : Word) (s : State) : Host.Outcome State Fault Refusal :=
  .next (acknowledge s)

end Sys2Proof.Machine
end

