-- ==== Sys2Proof/Machine/CounterOps.lean ====
section
/-! DEFINITION. The counter's arithmetic and procedures (40_counter.md R161 to R184). -/

namespace Sys2Proof.Machine

/-! ## Arithmetic -/

/-- `mi(est, F)`: the minimum qualifying interval (R164). -/
def minIntervalOf (est : Word) (frac : Half) : Word :=
  if est.toNat = 0 then 0
  else sat32 (max 1 (frac.toNat * 10 ^ 10 / (65536 * est.toNat)))

/-- `tgt(est, W)`: the RECIP target pulse count (R165). -/
def targetOf (est : Word) (windowMs : Half) : Word :=
  sat32 (max Config.recipMinEdges (est.toNat * windowMs.toNat / 10 ^ 7))

/-- `freq(P, E, p)` with `p` the sign-extended PPM_X100 (R166). -/
def freqOf (pulses : Word) (elapsed : Stamp) (ppm : Half) : Word :=
  sat32 (100 * pulses.toNat * ((10 : Int) ^ 8 + ppm.toInt).toNat / elapsed.toNat)

/-- The deadline `t + 1000 * W` microseconds, mod 2^64 (R161, R180). -/
def alarmDeadline (t : Stamp) (windowMs : Half) : Stamp := t + 1000#64 * windowMs.setWidth 64

/-! ## Window state -/

/-- `clear_window()` (R168). -/
def Counter.clearWindow (c : Counter) : Counter :=
  { c with windowOpen := false, syncForced := false, edgeSeen := false, pulses := 0, raw := 0,
           glitch := 0, startUs := 0, endUs := 0 }

/-- The alarm of a measurement that starts at `t`: pending in GATED mode only (R161). -/
def Counter.scheduleAlarm (c : Counter) (t : Stamp) : Counter :=
  match c.mode with
  | .gated => { c with alarmUs := alarmDeadline t c.windowMs, alarmPending := true }
  | .recip => { c with alarmPending := false }

/-- CNT_WINDOW as it is used: 0 is replaced by 1 (R161, R162). -/
def effectiveWindow (w : Half) : Half := if w = 0 then 1 else w

/-- `arm_counter(t)` (R161). -/
def Counter.arm (cfg : CounterConfig) (t : Stamp) (c : Counter) : Counter :=
  let w := effectiveWindow cfg.windowMs
  { c.clearWindow with mode := cfg.mode, windowMs := w, target := targetOf c.estX1e4 w,
                       armed := true }.scheduleAlarm t

/-- A SYNC restart: arm, then open a forced window at `t` (R176). -/
def Counter.syncRestart (cfg : CounterConfig) (t : Stamp) (c : Counter) : Counter :=
  { c.arm cfg t with windowOpen := true, syncForced := true, edgeSeen := false, startUs := t, endUs := t }

/-- `discard(t)`: back to a cold start with the same running mode and window (R180). -/
def Counter.discard (t : Stamp) (c : Counter) : Counter :=
  let d := { c.clearWindow with target := targetOf c.estX1e4 c.windowMs }
  match d.mode with
  | .gated => { d with alarmUs := alarmDeadline t d.windowMs, alarmPending := true }
  | .recip => d

/-- The elapsed time of a window, 0 when none is open (R179). -/
def Counter.elapsed (c : Counter) : Stamp := if c.windowOpen then c.endUs - c.startUs else 0

/-- The record an emitted window gives (R181, R183, R184). -/
def Counter.record (cfg : CounterConfig) (cause : Cause) (c : Counter) : ResultRec where
  mode := c.mode
  syncForced := c.syncForced
  timeout := decide (cause = .alarm)
  pulses := c.pulses
  raw := c.raw
  minInterval := c.minInterval
  freqX1e4 := freqOf c.pulses c.elapsed cfg.ppmX100
  elapsedUs := c.elapsed
  startUs := c.startUs
  endUs := c.endUs

/-- The counter after an emit: the new estimate and threshold, idle (R181, R182). -/
def Counter.afterEmit (cfg : CounterConfig) (f : Word) (c : Counter) : Counter :=
  { c.clearWindow with estX1e4 := f, minInterval := minIntervalOf f cfg.frac, armed := false,
                       alarmPending := false }

/-! ## Closing (R179 to R181) -/

/-- `push_result(rec)` (43_queues.md R322). -/
def pushResult (r : ResultRec) (s : State) : State := s.setRq (s.rq.push s.params.rqDepth r)

/-- `emit(cause, E)` (R181). -/
def emitResult (cause : Cause) (s : State) : State :=
  let r := s.cnt.record s.cntCfg cause
  (pushResult r s).setCnt (s.cnt.afterEmit s.cntCfg r.freqX1e4)

/-- The discard test of `close`: no window open, no pulse, or no elapsed time (R179). -/
def Counter.nothingToEmit (c : Counter) : Bool :=
  !c.windowOpen || c.pulses == 0 || c.elapsed == 0

/-- `close(cause, t)` (R179). -/
def closeWindow (cause : Cause) (t : Stamp) (s : State) : State :=
  let c := { s.cnt with alarmPending := false }
  if c.nothingToEmit then s.setCnt (c.discard t) else emitResult cause (s.setCnt c)

/-! ## Edges (R171 to R174) -/

/-- The reference edge of a cold start (R172). -/
def Counter.referenceEdge (t : Stamp) (c : Counter) : Counter :=
  { c with windowOpen := true, edgeSeen := true, startUs := t, endUs := t }

/-- The glitch test, on the exact difference `t - st.end_us` (R171, R173; log entry 13). -/
def Counter.isGlitch (t : Stamp) (c : Counter) : Bool :=
  c.edgeSeen && decide (t.toNat < c.endUs.toNat + c.minInterval.toNat)

/-- A qualifying edge counts a pulse and moves the window's end (R174). -/
def Counter.countPulse (t : Stamp) (c : Counter) : Counter :=
  { c with pulses := satInc c.pulses, endUs := t, edgeSeen := true }

/-- `qualifying_edge(t)` (R174). -/
def qualifyingEdge (t : Stamp) (s : State) : State :=
  let c := s.cnt.countPulse t
  if c.mode = .recip ∧ c.target.toNat ≤ c.pulses.toNat then closeWindow .target t (s.setCnt c)
  else s.setCnt c

/-- `on_edge(t)` (R171). -/
def onEdge (t : Stamp) (s : State) : State :=
  if s.cnt.armed then
    let c := { s.cnt with raw := satInc s.cnt.raw }
    if c.windowOpen then
      if c.isGlitch t then s.setCnt { c with glitch := satInc c.glitch }
      else qualifyingEdge t (s.setCnt c)
    else s.setCnt (c.referenceEdge t)
  else s

/-! ## The alarm (R178) -/

/-- `alarm_check()`, evaluated inside every TICK (R178; 44_timebase_irq.md R364). -/
def alarmCheck (s : State) : State :=
  if s.cnt.armed ∧ s.cnt.alarmPending ∧ s.cnt.alarmUs.toNat ≤ s.nowUs.toNat then
    closeWindow .alarm s.nowUs s
  else s

end Sys2Proof.Machine
end

