-- ==== Sys2Proof/Machine/Flags.lean ====
section
/-! DEFINITION. The status flags of RPS-FC (10_state.md R77): the status registers' images and the
interrupt outputs, each computed from the state. -/

namespace Sys2Proof.Machine

/-- CNT_STATUS (R36). -/
def cntStatusImage (s : State) : Word :=
  bitAt 0 s.cnt.armed ||| bitAt 1 s.cnt.windowOpen ||| bitAt 2 s.cnt.syncForced |||
    bitAt 3 s.cnt.edgeSeen ||| bitAt 4 s.cnt.alarmPending ||| bitAt 5 s.cnt.mode.bit |||
    bitAt 6 s.cnt.syncLevel ||| bitAt 7 s.cnt.sigLevel

/-- SW_STATUS (R48). -/
def swStatusImage (s : State) : Word :=
  bitAt 0 s.sw.busy ||| bitAt 1 s.sw.done ||| fieldAt 2 s.sw.result.code ||| fieldAt 8 s.sw.dev |||
    fieldAt 16 s.sw.len

/-- SW_LAST (R53). -/
def swLastImage (s : State) : Word :=
  fieldAt 0 s.sw.lastDev ||| bitAt 8 s.sw.lastValid ||| fieldAt 16 s.sw.lastLen

/-- The layout of RQ_STATUS and FQ_STATUS: COUNT, EMPTY, FULL, VALID (R58, R62; 43_queues.md R333). -/
def queueStatus {α : Type} (depth : Nat) (q : Queue α) : Word :=
  fieldAt 0 (BitVec.ofNat 8 q.entries.length) ||| bitAt 8 (q.entries.length == 0) |||
    bitAt 9 (q.entries.length == depth) ||| bitAt 10 q.valid

/-- RQ_STATUS (R58). -/
def rqStatusImage (s : State) : Word := queueStatus s.params.rqDepth s.rq

/-- FQ_STATUS (R62). -/
def fqStatusImage (s : State) : Word := queueStatus s.params.fqDepth s.fq

/-- R_FLAGS of the result latch (R61). -/
def rFlagsImage (s : State) : Word :=
  bitAt 0 s.rq.latch.mode.bit ||| bitAt 1 s.rq.latch.syncForced ||| bitAt 2 s.rq.latch.timeout

/-- INT_STAT's RQ_NE (R69). -/
def rqNotEmpty (s : State) : Bool := decide (0 < s.rq.entries.length)

/-- INT_STAT's FQ_NE (R69). -/
def fqNotEmpty (s : State) : Bool := decide (0 < s.fq.entries.length)

/-- INT_STAT (R69), whatever the enables (60_exceptions.md R408). -/
def intStatImage (s : State) : Word :=
  bitAt 0 (rqNotEmpty s) ||| bitAt 1 (fqNotEmpty s) ||| bitAt 2 s.sw.done

/-- The interrupt outputs `irq[0]`, `irq[1]`, `irq[2]` (44_timebase_irq.md R380), level-sensitive, with no
priority among them (R382). -/
def irq0 (s : State) : Bool := s.intEn.getLsbD 0 && rqNotEmpty s

/-- `irq[1]` (R380). -/
def irq1 (s : State) : Bool := s.intEn.getLsbD 1 && fqNotEmpty s

/-- `irq[2]` (R380). -/
def irq2 (s : State) : Bool := s.intEn.getLsbD 2 && s.sw.done

/-- The interrupt lines that reach a core and are high, by IRQ_ROUTE (R380, 60_exceptions.md R409). -/
def coreInterrupts (s : State) (m : Master) : List Nat :=
  (if s.params.irqRoute0 = m ∧ irq0 s then [0] else []) ++
    (if s.params.irqRoute1 = m ∧ irq1 s then [1] else []) ++
    (if s.params.irqRoute2 = m ∧ irq2 s then [2] else [])

/-- The level of the SWIO conductor: what the master drives, or the input level while it is released
(10_state.md R74). -/
def swioLine (s : State) : Bool := if s.sw.oe then s.sw.out else s.sw.swioIn

end Sys2Proof.Machine
end

