-- ==== Sys2Proof/Machine/Counter.lean ====
section
/-! DEFINITION. The frequency counter's operations: reads and writes of CNT_*, SIG and SYNC events (40_counter.md). -/

namespace Sys2Proof.Machine

/-- WR.CNT_CTRL's effect (R160). -/
def writeCntCtrl (v : Word) (s : State) : State :=
  let cfg := { s.cntCfg with mode := Mode.ofBit (vBit0 v) }
  if vBit1 v then (s.setCntCfg cfg).setCnt (s.cnt.arm cfg s.nowUs) else s.setCntCfg cfg

/-- WR.CNT_FRAC's effect (R167). -/
def writeCntFrac (v : Word) (s : State) : State :=
  (s.setCntCfg { s.cntCfg with frac := vLow16 v }).setCnt
    { s.cnt with minInterval := minIntervalOf s.cnt.estX1e4 (vLow16 v) }

/-- EV.SIG_HIGH's effect (R170). -/
def sigHigh (s : State) : State :=
  if s.cnt.sigLevel then s else onEdge s.nowUs (s.setCnt { s.cnt with sigLevel := true })

/-- EV.SYNC_HIGH's effect (R176). -/
def syncHigh (s : State) : State :=
  if s.cnt.syncLevel then s
  else s.setCnt ({ s.cnt with syncLevel := true }.syncRestart s.cntCfg s.nowUs)

/-- EV.SYNC_LOW's effect (R177). -/
def syncLow (s : State) : State :=
  if s.cnt.syncLevel then
    let t := s.setCnt { s.cnt with syncLevel := false }
    if s.cnt.armed ∧ s.cnt.windowOpen then closeWindow .sync s.nowUs t else t
  else s

/-- RD.CNT_CTRL: answers the register's image (R370, R32). -/
def execRdCntCtrl (s : State) : Host.Outcome State Fault Refusal :=
  .next (answer (cntCtrlImage s) s)

/-- WR.CNT_CTRL: MODE is stored; ARM = 1 arms the counter with the new MODE, abandoning an open window (R160). -/
def execWrCntCtrl (v : Word) (s : State) : Host.Outcome State Fault Refusal :=
  .next (acknowledge (writeCntCtrl v s))

/-- RD.CNT_WINDOW: answers the register's image (R370, R33). -/
def execRdCntWindow (s : State) : Host.Outcome State Fault Refusal :=
  .next (answer (cntWindowImage s) s)

/-- WR.CNT_WINDOW: takes effect at the next arm or SYNC restart (R162). -/
def execWrCntWindow (v : Word) (s : State) : Host.Outcome State Fault Refusal :=
  .next (acknowledge (s.setCntCfg { s.cntCfg with windowMs := vLow16 v }))

/-- RD.CNT_PPM: answers the register's image (R370, R34). -/
def execRdCntPpm (s : State) : Host.Outcome State Fault Refusal :=
  .next (answer (cntPpmImage s) s)

/-- WR.CNT_PPM: the value in force at a window's close scales the whole window (R163). -/
def execWrCntPpm (v : Word) (s : State) : Host.Outcome State Fault Refusal :=
  .next (acknowledge (s.setCntCfg { s.cntCfg with ppmX100 := vLow16 v }))

/-- RD.CNT_FRAC: answers the register's image (R370, R35). -/
def execRdCntFrac (s : State) : Host.Outcome State Fault Refusal :=
  .next (answer (cntFracImage s) s)

/-- WR.CNT_FRAC: stores FRAC and recomputes the minimum interval at once (R167). -/
def execWrCntFrac (v : Word) (s : State) : Host.Outcome State Fault Refusal :=
  .next (acknowledge (writeCntFrac v s))

/-- RD.CNT_STATUS: answers the register's image (R370, R36). -/
def execRdCntStatus (s : State) : Host.Outcome State Fault Refusal :=
  .next (answer (cntStatusImage s) s)

/-- WR.CNT_STATUS: read-only: acknowledged and ignored (R376, R36). -/
def execWrCntStatus (_v : Word) (s : State) : Host.Outcome State Fault Refusal :=
  .next (acknowledge s)

/-- RD.CNT_CUR_WINDOW: answers the register's image (R370, R37). -/
def execRdCntCurWindow (s : State) : Host.Outcome State Fault Refusal :=
  .next (answer (cntCurWindowImage s) s)

/-- WR.CNT_CUR_WINDOW: read-only: acknowledged and ignored (R376, R37). -/
def execWrCntCurWindow (_v : Word) (s : State) : Host.Outcome State Fault Refusal :=
  .next (acknowledge s)

/-- RD.CNT_PULSES: answers the register's image (R370, R38). -/
def execRdCntPulses (s : State) : Host.Outcome State Fault Refusal :=
  .next (answer (s.cnt.pulses) s)

/-- WR.CNT_PULSES: read-only: acknowledged and ignored (R376, R38). -/
def execWrCntPulses (_v : Word) (s : State) : Host.Outcome State Fault Refusal :=
  .next (acknowledge s)

/-- RD.CNT_RAW: answers the register's image (R370, R39). -/
def execRdCntRaw (s : State) : Host.Outcome State Fault Refusal :=
  .next (answer (s.cnt.raw) s)

/-- WR.CNT_RAW: read-only: acknowledged and ignored (R376, R39). -/
def execWrCntRaw (_v : Word) (s : State) : Host.Outcome State Fault Refusal :=
  .next (acknowledge s)

/-- RD.CNT_GLITCH: answers the register's image (R370, R40). -/
def execRdCntGlitch (s : State) : Host.Outcome State Fault Refusal :=
  .next (answer (s.cnt.glitch) s)

/-- WR.CNT_GLITCH: read-only: acknowledged and ignored (R376, R40). -/
def execWrCntGlitch (_v : Word) (s : State) : Host.Outcome State Fault Refusal :=
  .next (acknowledge s)

/-- RD.CNT_TARGET: answers the register's image (R370, R41). -/
def execRdCntTarget (s : State) : Host.Outcome State Fault Refusal :=
  .next (answer (s.cnt.target) s)

/-- WR.CNT_TARGET: read-only: acknowledged and ignored (R376, R41). -/
def execWrCntTarget (_v : Word) (s : State) : Host.Outcome State Fault Refusal :=
  .next (acknowledge s)

/-- RD.CNT_MIN_INTERVAL: answers the register's image (R370, R42). -/
def execRdCntMinInterval (s : State) : Host.Outcome State Fault Refusal :=
  .next (answer (s.cnt.minInterval) s)

/-- WR.CNT_MIN_INTERVAL: read-only: acknowledged and ignored (R376, R42). -/
def execWrCntMinInterval (_v : Word) (s : State) : Host.Outcome State Fault Refusal :=
  .next (acknowledge s)

/-- RD.CNT_ESTIMATE: answers the register's image (R370, R43). -/
def execRdCntEstimate (s : State) : Host.Outcome State Fault Refusal :=
  .next (answer (s.cnt.estX1e4) s)

/-- WR.CNT_ESTIMATE: read-only: acknowledged and ignored (R376, R43). -/
def execWrCntEstimate (_v : Word) (s : State) : Host.Outcome State Fault Refusal :=
  .next (acknowledge s)

/-- RD.CNT_START_LO: answers the register's image (R370, R44). -/
def execRdCntStartLo (s : State) : Host.Outcome State Fault Refusal :=
  .next (answer (lo32 s.cnt.startUs) s)

/-- WR.CNT_START_LO: read-only: acknowledged and ignored (R376, R44). -/
def execWrCntStartLo (_v : Word) (s : State) : Host.Outcome State Fault Refusal :=
  .next (acknowledge s)

/-- RD.CNT_START_HI: answers the register's image (R370, R44). -/
def execRdCntStartHi (s : State) : Host.Outcome State Fault Refusal :=
  .next (answer (hi32 s.cnt.startUs) s)

/-- WR.CNT_START_HI: read-only: acknowledged and ignored (R376, R44). -/
def execWrCntStartHi (_v : Word) (s : State) : Host.Outcome State Fault Refusal :=
  .next (acknowledge s)

/-- RD.CNT_END_LO: answers the register's image (R370, R45). -/
def execRdCntEndLo (s : State) : Host.Outcome State Fault Refusal :=
  .next (answer (lo32 s.cnt.endUs) s)

/-- WR.CNT_END_LO: read-only: acknowledged and ignored (R376, R45). -/
def execWrCntEndLo (_v : Word) (s : State) : Host.Outcome State Fault Refusal :=
  .next (acknowledge s)

/-- RD.CNT_END_HI: answers the register's image (R370, R45). -/
def execRdCntEndHi (s : State) : Host.Outcome State Fault Refusal :=
  .next (answer (hi32 s.cnt.endUs) s)

/-- WR.CNT_END_HI: read-only: acknowledged and ignored (R376, R45). -/
def execWrCntEndHi (_v : Word) (s : State) : Host.Outcome State Fault Refusal :=
  .next (acknowledge s)

/-- RD.CNT_ALARM_LO: answers the register's image (R370, R46). -/
def execRdCntAlarmLo (s : State) : Host.Outcome State Fault Refusal :=
  .next (answer (lo32 s.cnt.alarmUs) s)

/-- WR.CNT_ALARM_LO: read-only: acknowledged and ignored (R376, R46). -/
def execWrCntAlarmLo (_v : Word) (s : State) : Host.Outcome State Fault Refusal :=
  .next (acknowledge s)

/-- RD.CNT_ALARM_HI: answers the register's image (R370, R46). -/
def execRdCntAlarmHi (s : State) : Host.Outcome State Fault Refusal :=
  .next (answer (hi32 s.cnt.alarmUs) s)

/-- WR.CNT_ALARM_HI: read-only: acknowledged and ignored (R376, R46). -/
def execWrCntAlarmHi (_v : Word) (s : State) : Host.Outcome State Fault Refusal :=
  .next (acknowledge s)

/-- EV.SIG_HIGH: a 0-to-1 transition of SIG is an active edge (R170). -/
def execEvSigHigh (s : State) : Host.Outcome State Fault Refusal :=
  .next (noResponse (sigHigh s))

/-- EV.SIG_LOW: a falling transition is not counted (R175). -/
def execEvSigLow (s : State) : Host.Outcome State Fault Refusal :=
  .next (noResponse (s.setCnt { s.cnt with sigLevel := false }))

/-- EV.SYNC_HIGH: a rising SYNC force-restarts the window (R176). -/
def execEvSyncHigh (s : State) : Host.Outcome State Fault Refusal :=
  .next (noResponse (syncHigh s))

/-- EV.SYNC_LOW: a falling SYNC closes an open window (R177). -/
def execEvSyncLow (s : State) : Host.Outcome State Fault Refusal :=
  .next (noResponse (syncLow s))

end Sys2Proof.Machine
end

