-- ==== Sys2Proof/Machine/Crc.lean ====
section
/-! DEFINITION. The checksum generator's operations (42_crc_frame.md R290 to R293). -/

namespace Sys2Proof.Machine

/-- One bit of the CRC division: shift left, and XOR the polynomial if bit 15 was 1 (R292). -/
def crcShift (c : Half) : Half := if c.getLsbD 15 then (c <<< 1) ^^^ Config.crcPoly else c <<< 1

/-- One byte, most significant bit first (R292). -/
def crcByte (c : Half) (b : Byte) : Half :=
  let x := c ^^^ (b.setWidth 16 <<< 8)
  crcShift (crcShift (crcShift (crcShift (crcShift (crcShift (crcShift (crcShift x)))))))

/-- `crc16(bytes)`: INIT, then one DATA write per byte (R293). -/
def crc16 (bytes : List Byte) : Half := bytes.foldl crcByte Config.crcInit

/-- RD.CRC_CTRL: a write-only register reads 0 (R377, R55). -/
def execRdCrcCtrl (s : State) : Host.Outcome State Fault Refusal :=
  .next (answer 0 s)

/-- WR.CRC_CTRL: INIT (R291). -/
def execWrCrcCtrl (v : Word) (s : State) : Host.Outcome State Fault Refusal :=
  .next (acknowledge (if vBit0 v then s.setCrc Config.crcInit else s))

/-- RD.CRC_DATA: a write-only register reads 0 (R377, R56). -/
def execRdCrcData (s : State) : Host.Outcome State Fault Refusal :=
  .next (answer 0 s)

/-- WR.CRC_DATA: feeds one byte; bits 31:8 are ignored (R292). -/
def execWrCrcData (v : Word) (s : State) : Host.Outcome State Fault Refusal :=
  .next (acknowledge (s.setCrc (crcByte s.crc (vLow8 v))))

/-- RD.CRC_VALUE: answers the register's image (R370, R57). -/
def execRdCrcValue (s : State) : Host.Outcome State Fault Refusal :=
  .next (answer (crcValueImage s) s)

/-- WR.CRC_VALUE: read-only: acknowledged and ignored (R376, R57). -/
def execWrCrcValue (_v : Word) (s : State) : Host.Outcome State Fault Refusal :=
  .next (acknowledge s)

end Sys2Proof.Machine
end

