-- ==== Sys2Proof/Machine/Queues.lean ====
section
/-! DEFINITION. The queues' operations: RQ, the result latch and FQ (43_queues.md R324 to R329). -/

namespace Sys2Proof.Machine

/-- RD.RQ_STATUS: answers the register's image (R370, R58). -/
def execRdRqStatus (s : State) : Host.Outcome State Fault Refusal :=
  .next (answer (rqStatusImage s) s)

/-- WR.RQ_STATUS: read-only: acknowledged and ignored (R376, R58). -/
def execWrRqStatus (_v : Word) (s : State) : Host.Outcome State Fault Refusal :=
  .next (acknowledge s)

/-- RD.RQ_CMD: a write-only register reads 0 (R377, R59). -/
def execRdRqCmd (s : State) : Host.Outcome State Fault Refusal :=
  .next (answer 0 s)

/-- WR.RQ_CMD: POP a result into the latch (R324, R325). -/
def execWrRqCmd (v : Word) (s : State) : Host.Outcome State Fault Refusal :=
  .next (acknowledge (if vBit0 v then s.setRq s.rq.pop else s))

/-- RD.RQ_OVF: answers the register's image (R370, R60). -/
def execRdRqOvf (s : State) : Host.Outcome State Fault Refusal :=
  .next (answer (s.rq.ovf) s)

/-- WR.RQ_OVF: any value clears the count (R326). -/
def execWrRqOvf (_v : Word) (s : State) : Host.Outcome State Fault Refusal :=
  .next (acknowledge (s.setRq s.rq.clearOvf))

/-- RD.R_FLAGS: answers the register's image (R370, R61). -/
def execRdRFlags (s : State) : Host.Outcome State Fault Refusal :=
  .next (answer (rFlagsImage s) s)

/-- WR.R_FLAGS: read-only: acknowledged and ignored (R376, R61). -/
def execWrRFlags (_v : Word) (s : State) : Host.Outcome State Fault Refusal :=
  .next (acknowledge s)

/-- RD.R_PULSES: answers the register's image (R370, R61). -/
def execRdRPulses (s : State) : Host.Outcome State Fault Refusal :=
  .next (answer (s.rq.latch.pulses) s)

/-- WR.R_PULSES: read-only: acknowledged and ignored (R376, R61). -/
def execWrRPulses (_v : Word) (s : State) : Host.Outcome State Fault Refusal :=
  .next (acknowledge s)

/-- RD.R_RAW: answers the register's image (R370, R61). -/
def execRdRRaw (s : State) : Host.Outcome State Fault Refusal :=
  .next (answer (s.rq.latch.raw) s)

/-- WR.R_RAW: read-only: acknowledged and ignored (R376, R61). -/
def execWrRRaw (_v : Word) (s : State) : Host.Outcome State Fault Refusal :=
  .next (acknowledge s)

/-- RD.R_MIN_INTERVAL: answers the register's image (R370, R61). -/
def execRdRMinInterval (s : State) : Host.Outcome State Fault Refusal :=
  .next (answer (s.rq.latch.minInterval) s)

/-- WR.R_MIN_INTERVAL: read-only: acknowledged and ignored (R376, R61). -/
def execWrRMinInterval (_v : Word) (s : State) : Host.Outcome State Fault Refusal :=
  .next (acknowledge s)

/-- RD.R_FREQ_X1E4: answers the register's image (R370, R61). -/
def execRdRFreqX1e4 (s : State) : Host.Outcome State Fault Refusal :=
  .next (answer (s.rq.latch.freqX1e4) s)

/-- WR.R_FREQ_X1E4: read-only: acknowledged and ignored (R376, R61). -/
def execWrRFreqX1e4 (_v : Word) (s : State) : Host.Outcome State Fault Refusal :=
  .next (acknowledge s)

/-- RD.R_ELAPSED_LO: answers the register's image (R370, R61). -/
def execRdRElapsedLo (s : State) : Host.Outcome State Fault Refusal :=
  .next (answer (lo32 s.rq.latch.elapsedUs) s)

/-- WR.R_ELAPSED_LO: read-only: acknowledged and ignored (R376, R61). -/
def execWrRElapsedLo (_v : Word) (s : State) : Host.Outcome State Fault Refusal :=
  .next (acknowledge s)

/-- RD.R_ELAPSED_HI: answers the register's image (R370, R61). -/
def execRdRElapsedHi (s : State) : Host.Outcome State Fault Refusal :=
  .next (answer (hi32 s.rq.latch.elapsedUs) s)

/-- WR.R_ELAPSED_HI: read-only: acknowledged and ignored (R376, R61). -/
def execWrRElapsedHi (_v : Word) (s : State) : Host.Outcome State Fault Refusal :=
  .next (acknowledge s)

/-- RD.R_START_LO: answers the register's image (R370, R61). -/
def execRdRStartLo (s : State) : Host.Outcome State Fault Refusal :=
  .next (answer (lo32 s.rq.latch.startUs) s)

/-- WR.R_START_LO: read-only: acknowledged and ignored (R376, R61). -/
def execWrRStartLo (_v : Word) (s : State) : Host.Outcome State Fault Refusal :=
  .next (acknowledge s)

/-- RD.R_START_HI: answers the register's image (R370, R61). -/
def execRdRStartHi (s : State) : Host.Outcome State Fault Refusal :=
  .next (answer (hi32 s.rq.latch.startUs) s)

/-- WR.R_START_HI: read-only: acknowledged and ignored (R376, R61). -/
def execWrRStartHi (_v : Word) (s : State) : Host.Outcome State Fault Refusal :=
  .next (acknowledge s)

/-- RD.R_END_LO: answers the register's image (R370, R61). -/
def execRdREndLo (s : State) : Host.Outcome State Fault Refusal :=
  .next (answer (lo32 s.rq.latch.endUs) s)

/-- WR.R_END_LO: read-only: acknowledged and ignored (R376, R61). -/
def execWrREndLo (_v : Word) (s : State) : Host.Outcome State Fault Refusal :=
  .next (acknowledge s)

/-- RD.R_END_HI: answers the register's image (R370, R61). -/
def execRdREndHi (s : State) : Host.Outcome State Fault Refusal :=
  .next (answer (hi32 s.rq.latch.endUs) s)

/-- WR.R_END_HI: read-only: acknowledged and ignored (R376, R61). -/
def execWrREndHi (_v : Word) (s : State) : Host.Outcome State Fault Refusal :=
  .next (acknowledge s)

/-- RD.FQ_STATUS: answers the register's image (R370, R62). -/
def execRdFqStatus (s : State) : Host.Outcome State Fault Refusal :=
  .next (answer (fqStatusImage s) s)

/-- WR.FQ_STATUS: read-only: acknowledged and ignored (R376, R62). -/
def execWrFqStatus (_v : Word) (s : State) : Host.Outcome State Fault Refusal :=
  .next (acknowledge s)

/-- RD.FQ_CMD: a write-only register reads 0 (R377, R63). -/
def execRdFqCmd (s : State) : Host.Outcome State Fault Refusal :=
  .next (answer 0 s)

/-- WR.FQ_CMD: POP a frame word into FQ_DATA (R328). -/
def execWrFqCmd (v : Word) (s : State) : Host.Outcome State Fault Refusal :=
  .next (acknowledge (if vBit0 v then s.setFq s.fq.pop else s))

/-- RD.FQ_OVF: answers the register's image (R370, R64). -/
def execRdFqOvf (s : State) : Host.Outcome State Fault Refusal :=
  .next (answer (s.fq.ovf) s)

/-- WR.FQ_OVF: any value clears the count (R329). -/
def execWrFqOvf (_v : Word) (s : State) : Host.Outcome State Fault Refusal :=
  .next (acknowledge (s.setFq s.fq.clearOvf))

/-- RD.FQ_PUSH: a write-only register reads 0 (R377, R65). -/
def execRdFqPush (s : State) : Host.Outcome State Fault Refusal :=
  .next (answer 0 s)

/-- WR.FQ_PUSH: pushes the written word, evicting the oldest of a full queue (R327). -/
def execWrFqPush (v : Word) (s : State) : Host.Outcome State Fault Refusal :=
  .next (acknowledge (s.setFq (s.fq.push s.params.fqDepth v)))

/-- RD.FQ_DATA: answers the register's image (R370, R66). -/
def execRdFqData (s : State) : Host.Outcome State Fault Refusal :=
  .next (answer (s.fq.latch) s)

/-- WR.FQ_DATA: read-only: acknowledged and ignored (R376, R66). -/
def execWrFqData (_v : Word) (s : State) : Host.Outcome State Fault Refusal :=
  .next (acknowledge s)

end Sys2Proof.Machine
end

