-- ==== Sys2Proof/Machine/Reserved.lean ====
section
/-! DEFINITION. Reserved descriptors (30_encoding.md R138; 60_exceptions.md R404). -/

namespace Sys2Proof.Machine

/-- RESERVED.CLASS: spells no operation; refused, no step and no state change (R138, R404). -/
def execReservedClass (_low : BitVec 14) (_s : State) : Host.Outcome State Fault Refusal :=
  .refused .reservedClass

/-- RESERVED.EVT.Z4: spells no operation; refused, no step and no state change (R138, R404). -/
def execReservedEvtZ4 (_hi : BitVec 9) (_ev : BitVec 4) (_s : State) : Host.Outcome State Fault Refusal :=
  .refused .reservedEventBits

/-- RESERVED.EVT.Z5: spells no operation; refused, no step and no state change (R138, R404). -/
def execReservedEvtZ5 (_hi : BitVec 8) (_ev : BitVec 4) (_s : State) : Host.Outcome State Fault Refusal :=
  .refused .reservedEventBits

/-- RESERVED.EVT.Z6: spells no operation; refused, no step and no state change (R138, R404). -/
def execReservedEvtZ6 (_hi : BitVec 7) (_ev : BitVec 4) (_s : State) : Host.Outcome State Fault Refusal :=
  .refused .reservedEventBits

/-- RESERVED.EVT.Z7: spells no operation; refused, no step and no state change (R138, R404). -/
def execReservedEvtZ7 (_hi : BitVec 6) (_ev : BitVec 4) (_s : State) : Host.Outcome State Fault Refusal :=
  .refused .reservedEventBits

/-- RESERVED.EVT.Z8: spells no operation; refused, no step and no state change (R138, R404). -/
def execReservedEvtZ8 (_hi : BitVec 5) (_ev : BitVec 4) (_s : State) : Host.Outcome State Fault Refusal :=
  .refused .reservedEventBits

/-- RESERVED.EVT.Z9: spells no operation; refused, no step and no state change (R138, R404). -/
def execReservedEvtZ9 (_hi : BitVec 4) (_ev : BitVec 4) (_s : State) : Host.Outcome State Fault Refusal :=
  .refused .reservedEventBits

/-- RESERVED.EVT.Z10: spells no operation; refused, no step and no state change (R138, R404). -/
def execReservedEvtZ10 (_hi : BitVec 3) (_ev : BitVec 4) (_s : State) : Host.Outcome State Fault Refusal :=
  .refused .reservedEventBits

/-- RESERVED.EVT.Z11: spells no operation; refused, no step and no state change (R138, R404). -/
def execReservedEvtZ11 (_hi : BitVec 2) (_ev : BitVec 4) (_s : State) : Host.Outcome State Fault Refusal :=
  .refused .reservedEventBits

/-- RESERVED.EVT.Z12: spells no operation; refused, no step and no state change (R138, R404). -/
def execReservedEvtZ12 (_hi : BitVec 1) (_ev : BitVec 4) (_s : State) : Host.Outcome State Fault Refusal :=
  .refused .reservedEventBits

/-- RESERVED.EVT.Z13: spells no operation; refused, no step and no state change (R138, R404). -/
def execReservedEvtZ13 (_ev : BitVec 4) (_s : State) : Host.Outcome State Fault Refusal :=
  .refused .reservedEventBits

/-- RESERVED.EVT.EV: spells no operation; refused, no step and no state change (R138, R404). -/
def execReservedEvtEv (_ev : BitVec 3) (_s : State) : Host.Outcome State Fault Refusal :=
  .refused .reservedEventCode

end Sys2Proof.Machine
end

