-- ==== Sys2Proof/Machine/EngineOps.lean ====
section
/-! DEFINITION. The single-wire engine as an explicit state machine: the transaction process of
41_single_wire.md R230 to R242, cut at its waits. -/

namespace Sys2Proof.Machine

/-! ## Line primitives (R231) -/

/-- `drive_high()` and `drive_low()`. -/
def Engine.drive (level : Bool) (e : Engine) : Engine := { e with oe := true, out := level }

/-- `release()`. -/
def Engine.release (e : Engine) : Engine := { e with oe := false }

/-- `wait n` at a wait point (R240). -/
def Engine.suspend (pt : SeqPoint) (n : Word) (e : Engine) : Engine := { e with sp := pt, wait := n }

/-- One half-bit period `st.sw_H`. -/
def Engine.half (e : Engine) : Word := e.h.setWidth 32

/-- `floor(st.sw_H / 2)`: the first sample point of a received bit (R234). -/
def Engine.quarter (e : Engine) : Word := e.half / 2

/-! ## Ending a transaction (R239) -/

/-- `finish(res, dev, len)`. -/
def Engine.finish (res : SwResult) (dev : Byte) (len : Half) (e : Engine) : Engine :=
  let f := { e.release with busy := false, done := true, sp := .idle, wait := 0, result := res,
                            dev := dev, len := len }
  if res = .ok ∧ 0 < len.toNat then { f with lastValid := true, lastDev := dev, lastLen := len } else f

/-! ## Sending and receiving bits (R233, R234) -/

/-- The start of `txbit(x)`: a 1 drives low first, a 0 high first. -/
def Engine.beginTxBit (x : Bool) (e : Engine) : Engine :=
  (({ e with bit := x }).drive (!x)).suspend .wTx1 e.half

/-- The start of `txbyte(b)` in a phase, most significant bit first. -/
def Engine.beginTxByte (ph : Phase) (b : Byte) (e : Engine) : Engine :=
  ({ e with phase := ph, tx := b, k := 7 }).beginTxBit (b.getLsbD 7)

/-- The start of `rxbit()`. -/
def Engine.beginRxBit (e : Engine) : Engine := e.release.suspend .wRx1 e.quarter

/-- The start of an acknowledge slot SAK1 to SAK4. -/
def Engine.beginSak (ph : Phase) (e : Engine) : Engine := ({ e with phase := ph }).beginRxBit

/-- The start of `rxbyte()` for data byte `i`. -/
def Engine.beginRxByte (i : Half) (e : Engine) : Engine :=
  ({ e with phase := .data, i := i, k := 7 }).beginRxBit

/-- `decode(s1, s2)` under IDLE_LEVEL (R234). -/
def rxDecode (idleLevel s1 s2 : Bool) : RxBit :=
  match s1, s2 with
  | false, true => .one
  | true, false => .zero
  | s, _ => if s = idleLevel then .idle else .error

/-- `st.sw_rx[st.sw_k] <- b` (R234). -/
def setBit (x : Byte) (k : BitVec 3) (b : Bool) : Byte :=
  (x &&& ~~~((1#8) <<< k.toNat)) ||| ((BitVec.ofBool b).setWidth 8 <<< k.toNat)

/-! ## The transaction (R237) -/

/-- `attempt`: the standby pulse. -/
def Engine.beginAttempt (p : Config.Params) (e : Engine) : Engine :=
  (({ e with phase := .stby }).drive true).suspend .wStby p.tStby

/-- `next_address` (R237, R238). -/
def Engine.nextAddress (p : Config.Params) (e : Engine) : Engine :=
  if p.probeLast.toNat < e.d.toNat + Config.probeStep then e.finish .noDevice 0 0
  else ({ e with d := BitVec.ofNat 8 (e.d.toNat + Config.probeStep) }).beginAttempt p

/-- What follows a byte the master has sent. -/
def Engine.afterTxByte (e : Engine) : Engine :=
  match e.phase with
  | .start => e.beginTxByte .devaddr e.d
  | .devaddr => e.beginSak .sak1
  | .cmd => e.beginSak .sak2
  | .addrh => e.beginSak .sak3
  | .addrl => e.beginSak .sak4
  -- no byte is sent in these phases: unreachable (log entry 11)
  | .stby | .hdr | .sak1 | .sak2 | .sak3 | .sak4 | .data | .mak => e

/-- What follows an accepted acknowledge. -/
def Engine.afterSak (p : Config.Params) (e : Engine) : Engine :=
  match e.phase with
  | .sak1 => e.beginTxByte .cmd p.readCmd
  | .sak2 => e.beginTxByte .addrh (e.a.extractLsb' 8 8)
  | .sak3 => e.beginTxByte .addrl (e.a.extractLsb' 0 8)
  | .sak4 => e.beginRxByte 0
  -- no acknowledge is received in these phases: unreachable (log entry 11)
  | .stby | .hdr | .start | .devaddr | .cmd | .addrh | .addrl | .data | .mak => e

/-- `handshake(a)`. -/
def Engine.handshake (p : Config.Params) (a : RxBit) (e : Engine) : Engine :=
  match a with
  | .one => e.afterSak p
  | .idle => e.nextAddress p
  | .zero => e.finish .ioError e.d 0
  | .error => e.finish .ioError e.d 0

/-- A whole data byte has been received: store it and send MAK, 1 while more bytes are wanted (R241). -/
def Engine.afterRxByte (e : Engine) : Engine :=
  ({ e with buf := Memory.write e.buf e.i.toNat e.rx, phase := .mak }).beginTxBit
    (decide (e.i.toNat + 1 < e.l.toNat))

/-- A data bit of value `b`: stored in `st.sw_rx`, then the next bit or the end of the byte (R234). -/
def Engine.storeBit (b : Bool) (e : Engine) : Engine :=
  let f := { e with rx := setBit e.rx e.k b }
  if e.k = 0 then f.afterRxByte else ({ f with k := e.k - 1 }).beginRxBit

/-- A data slot has ended: a bit, or the end of the transaction (R234, R242). -/
def Engine.afterDataBit (a : RxBit) (e : Engine) : Engine :=
  match a with
  | .zero => e.storeBit false
  | .one => e.storeBit true
  | .idle => e.finish .ioError e.d e.i
  | .error => e.finish .ioError e.d e.i

/-- MAK has been sent: the next data byte, or the end of the transaction. -/
def Engine.afterMak (e : Engine) : Engine :=
  if e.i.toNat + 1 < e.l.toNat then e.beginRxByte (e.i + 1) else e.finish .ok e.d e.l

/-- A sent bit has ended. -/
def Engine.afterTxBit (e : Engine) : Engine :=
  match e.phase with
  | .mak => e.afterMak
  | .start | .devaddr | .cmd | .addrh | .addrl =>
    if e.k = 0 then e.afterTxByte
    else ({ e with k := e.k - 1 }).beginTxBit (e.tx.getLsbD (e.k.toNat - 1))
  -- no bit is sent in these phases: unreachable (log entry 11)
  | .stby | .hdr | .sak1 | .sak2 | .sak3 | .sak4 | .data => e

/-- A received bit's slot has ended. -/
def Engine.afterRxBit (p : Config.Params) (e : Engine) : Engine :=
  match e.phase with
  | .sak1 | .sak2 | .sak3 | .sak4 => e.handshake p (rxDecode p.idleLevel e.s1 e.s2)
  | .data => e.afterDataBit (rxDecode p.idleLevel e.s1 e.s2)
  -- no bit is received in these phases: unreachable (log entry 11)
  | .stby | .hdr | .start | .devaddr | .cmd | .addrh | .addrl | .mak => e

/-- Resumes the process after its wait point and runs it to its next wait or to finish (R240). A sample
reads the input level as the environment left it before the TICK. -/
def Engine.resume (p : Config.Params) (e : Engine) : Engine :=
  match e.sp with
  | .idle => e
  | .wStby => (({ e with phase := .hdr }).drive false).suspend .wHdr p.tHdr
  | .wHdr => e.beginTxByte .start p.startByte
  | .wTx1 => (e.drive e.bit).suspend .wTx2 e.half
  | .wTx2 => e.afterTxBit
  | .wRx1 => ({ e with s1 := e.swioIn }).suspend .wRx2 e.half
  | .wRx2 => ({ e with s2 := e.swioIn }).suspend .wRx3 (e.half - e.quarter)
  | .wRx3 => e.afterRxBit p

/-- `sw_tick()` (R240). -/
def Engine.tick (p : Config.Params) (e : Engine) : Engine :=
  if e.busy then
    let f := { e with wait := e.wait - 1 }
    if f.wait = 0 then f.resume p else f
  else e

/-- The clamped length `L = min(LEN, BUF_CAP, EE_SIZE - ADDR)` (R236). -/
def clampedLength (p : Config.Params) (cfg : EngineConfig) : Nat :=
  min cfg.len.toNat (min p.bufCap (Config.eeSize - cfg.addr.toNat))

/-- `start_transaction()` up to its first wait (R236, R237). -/
def Engine.startTransaction (p : Config.Params) (cfg : EngineConfig) (e : Engine) : Engine :=
  let f := { e with done := false }
  if Config.eeSize ≤ cfg.addr.toNat then f.finish .range 0 0
  else if clampedLength p cfg = 0 then f.finish .ok 0 0
  else ({ f with h := halfUs cfg.bitrate, a := cfg.addr, l := BitVec.ofNat 16 (clampedLength p cfg),
                 busy := true, d := Config.probeFirst }).beginAttempt p

end Sys2Proof.Machine
end

