-- ==== Sys2Proof/Machine/SingleWire.lean ====
section
/-! DEFINITION. The single-wire engine's operations: reads and writes of SW_*, SWIO events (41_single_wire.md). -/

namespace Sys2Proof.Machine

/-- WR.SW_CTRL's effect: CLR_DONE is applied before START; START while busy is ignored (R235). -/
def writeSwCtrl (p : Config.Params) (cfg : EngineConfig) (v : Word) (e : Engine) : Engine :=
  let f := if vBit1 v then { e with done := false } else e
  if vBit0 v ∧ f.busy = false then f.startTransaction p cfg else f

/-- RD.SW_CTRL: a write-only register reads 0 (R377, R47). -/
def execRdSwCtrl (s : State) : Host.Outcome State Fault Refusal :=
  .next (answer 0 s)

/-- WR.SW_CTRL: CLR_DONE, then START unless busy (R235). -/
def execWrSwCtrl (v : Word) (s : State) : Host.Outcome State Fault Refusal :=
  .next (acknowledge (s.setSw (writeSwCtrl s.params s.swCfg v s.sw)))

/-- RD.SW_STATUS: answers the register's image (R370, R48). -/
def execRdSwStatus (s : State) : Host.Outcome State Fault Refusal :=
  .next (answer (swStatusImage s) s)

/-- WR.SW_STATUS: read-only: acknowledged and ignored (R376, R48). -/
def execWrSwStatus (_v : Word) (s : State) : Host.Outcome State Fault Refusal :=
  .next (acknowledge s)

/-- RD.SW_BITRATE: answers the register's image (R370, R49). -/
def execRdSwBitrate (s : State) : Host.Outcome State Fault Refusal :=
  .next (answer (s.swCfg.bitrate) s)

/-- WR.SW_BITRATE: ignored while busy (R243). -/
def execWrSwBitrate (v : Word) (s : State) : Host.Outcome State Fault Refusal :=
  .next (acknowledge (if s.sw.busy then s else s.setSwCfg { s.swCfg with bitrate := v }))

/-- RD.SW_HALF: answers the register's image (R370, R50). -/
def execRdSwHalf (s : State) : Host.Outcome State Fault Refusal :=
  .next (answer (swHalfImage s) s)

/-- WR.SW_HALF: read-only: acknowledged and ignored (R376, R50). -/
def execWrSwHalf (_v : Word) (s : State) : Host.Outcome State Fault Refusal :=
  .next (acknowledge s)

/-- RD.SW_ADDR: answers the register's image (R370, R51). -/
def execRdSwAddr (s : State) : Host.Outcome State Fault Refusal :=
  .next (answer (swAddrImage s) s)

/-- WR.SW_ADDR: ignored while busy (R244). -/
def execWrSwAddr (v : Word) (s : State) : Host.Outcome State Fault Refusal :=
  .next (acknowledge (if s.sw.busy then s else s.setSwCfg { s.swCfg with addr := vLow16 v }))

/-- RD.SW_LEN: answers the register's image (R370, R52). -/
def execRdSwLen (s : State) : Host.Outcome State Fault Refusal :=
  .next (answer (swLenImage s) s)

/-- WR.SW_LEN: ignored while busy (R245). -/
def execWrSwLen (v : Word) (s : State) : Host.Outcome State Fault Refusal :=
  .next (acknowledge (if s.sw.busy then s else s.setSwCfg { s.swCfg with len := vLow16 v }))

/-- RD.SW_LAST: answers the register's image (R370, R53). -/
def execRdSwLast (s : State) : Host.Outcome State Fault Refusal :=
  .next (answer (swLastImage s) s)

/-- WR.SW_LAST: read-only: acknowledged and ignored (R376, R53). -/
def execWrSwLast (_v : Word) (s : State) : Host.Outcome State Fault Refusal :=
  .next (acknowledge s)

/-- RD.SW_BUF: answers the register's image (R370, R54). -/
def execRdSwBuf (j : BitVec 8) (s : State) : Host.Outcome State Fault Refusal :=
  .next (answer (swBufImage j s) s)

/-- WR.SW_BUF: read-only: acknowledged and ignored (R376, R54). -/
def execWrSwBuf (_j : BitVec 8) (_v : Word) (s : State) : Host.Outcome State Fault Refusal :=
  .next (acknowledge s)

/-- EV.SWIO_HIGH: the device side sets the input level to 1 (R246). -/
def execEvSwioHigh (s : State) : Host.Outcome State Fault Refusal :=
  .next (noResponse (s.setSw { s.sw with swioIn := true }))

/-- EV.SWIO_LOW: the device side sets the input level to 0 (R247). -/
def execEvSwioLow (s : State) : Host.Outcome State Fault Refusal :=
  .next (noResponse (s.setSw { s.sw with swioIn := false }))

end Sys2Proof.Machine
end

