-- ==== Sys2Proof/Machine/Timebase.lean ====
section
/-! DEFINITION. The timebase, the interrupt enables and reset (44_timebase_irq.md; 70_reset_and_hazards.md R440). -/

namespace Sys2Proof.Machine

/-- EV.TICK's effect: time, then the alarm check, then the engine (R360). -/
def tick (s : State) : State :=
  let t := alarmCheck (s.setNow (s.nowUs + 1))
  t.setSw (t.sw.tick t.params)

/-- EV.RESET's effect: the table of R441 in one step. The parameters, the operations still to come and the
recorded faults are no items of that table (log entry 21). -/
def resetAll (s : State) : State :=
  ((State.resetWith s.params).setPending s.pending).setFaults s.faults

/-- RD.NOW_LO: answers the register's image (R370, R67). -/
def execRdNowLo (s : State) : Host.Outcome State Fault Refusal :=
  .next (answer (lo32 s.nowUs) s)

/-- WR.NOW_LO: read-only: acknowledged and ignored (R376, R67). -/
def execWrNowLo (_v : Word) (s : State) : Host.Outcome State Fault Refusal :=
  .next (acknowledge s)

/-- RD.NOW_HI: answers the register's image (R370, R67). -/
def execRdNowHi (s : State) : Host.Outcome State Fault Refusal :=
  .next (answer (hi32 s.nowUs) s)

/-- WR.NOW_HI: read-only: acknowledged and ignored (R376, R67). -/
def execWrNowHi (_v : Word) (s : State) : Host.Outcome State Fault Refusal :=
  .next (acknowledge s)

/-- RD.INT_EN: answers the register's image (R370, R68). -/
def execRdIntEn (s : State) : Host.Outcome State Fault Refusal :=
  .next (answer (intEnImage s) s)

/-- WR.INT_EN: stores the three enables (R381). -/
def execWrIntEn (v : Word) (s : State) : Host.Outcome State Fault Refusal :=
  .next (acknowledge (s.setIntEn (vLow3 v)))

/-- RD.INT_STAT: answers the register's image (R370, R69). -/
def execRdIntStat (s : State) : Host.Outcome State Fault Refusal :=
  .next (answer (intStatImage s) s)

/-- WR.INT_STAT: read-only: acknowledged and ignored (R376, R69). -/
def execWrIntStat (_v : Word) (s : State) : Host.Outcome State Fault Refusal :=
  .next (acknowledge s)

/-- EV.TICK: one microsecond: the timebase advances, then the alarm, then the engine (R360). -/
def execEvTick (s : State) : Host.Outcome State Fault Refusal :=
  .next (noResponse (tick s))

/-- EV.RESET: every item of R441 takes its reset value (R440 to R443). -/
def execEvReset (s : State) : Host.Outcome State Fault Refusal :=
  .next (resetAll s)

end Sys2Proof.Machine
end

