-- ==== Sys2Proof/Machine/Dispatch.lean ====
section
/-! DEFINITION. One arm per operation, each a direct call of its meaning. -/

namespace Sys2Proof.Machine

def exec (i : Instr) (s : State) : Host.Outcome State Fault Refusal :=
  match i with
  | .rdCntCtrl => Sys2Proof.Machine.execRdCntCtrl s
  | .wrCntCtrl v => Sys2Proof.Machine.execWrCntCtrl v s
  | .rdCntWindow => Sys2Proof.Machine.execRdCntWindow s
  | .wrCntWindow v => Sys2Proof.Machine.execWrCntWindow v s
  | .rdCntPpm => Sys2Proof.Machine.execRdCntPpm s
  | .wrCntPpm v => Sys2Proof.Machine.execWrCntPpm v s
  | .rdCntFrac => Sys2Proof.Machine.execRdCntFrac s
  | .wrCntFrac v => Sys2Proof.Machine.execWrCntFrac v s
  | .rdCntStatus => Sys2Proof.Machine.execRdCntStatus s
  | .wrCntStatus v => Sys2Proof.Machine.execWrCntStatus v s
  | .rdCntCurWindow => Sys2Proof.Machine.execRdCntCurWindow s
  | .wrCntCurWindow v => Sys2Proof.Machine.execWrCntCurWindow v s
  | .rdCntPulses => Sys2Proof.Machine.execRdCntPulses s
  | .wrCntPulses v => Sys2Proof.Machine.execWrCntPulses v s
  | .rdCntRaw => Sys2Proof.Machine.execRdCntRaw s
  | .wrCntRaw v => Sys2Proof.Machine.execWrCntRaw v s
  | .rdCntGlitch => Sys2Proof.Machine.execRdCntGlitch s
  | .wrCntGlitch v => Sys2Proof.Machine.execWrCntGlitch v s
  | .rdCntTarget => Sys2Proof.Machine.execRdCntTarget s
  | .wrCntTarget v => Sys2Proof.Machine.execWrCntTarget v s
  | .rdCntMinInterval => Sys2Proof.Machine.execRdCntMinInterval s
  | .wrCntMinInterval v => Sys2Proof.Machine.execWrCntMinInterval v s
  | .rdCntEstimate => Sys2Proof.Machine.execRdCntEstimate s
  | .wrCntEstimate v => Sys2Proof.Machine.execWrCntEstimate v s
  | .rdCntStartLo => Sys2Proof.Machine.execRdCntStartLo s
  | .wrCntStartLo v => Sys2Proof.Machine.execWrCntStartLo v s
  | .rdCntStartHi => Sys2Proof.Machine.execRdCntStartHi s
  | .wrCntStartHi v => Sys2Proof.Machine.execWrCntStartHi v s
  | .rdCntEndLo => Sys2Proof.Machine.execRdCntEndLo s
  | .wrCntEndLo v => Sys2Proof.Machine.execWrCntEndLo v s
  | .rdCntEndHi => Sys2Proof.Machine.execRdCntEndHi s
  | .wrCntEndHi v => Sys2Proof.Machine.execWrCntEndHi v s
  | .rdCntAlarmLo => Sys2Proof.Machine.execRdCntAlarmLo s
  | .wrCntAlarmLo v => Sys2Proof.Machine.execWrCntAlarmLo v s
  | .rdCntAlarmHi => Sys2Proof.Machine.execRdCntAlarmHi s
  | .wrCntAlarmHi v => Sys2Proof.Machine.execWrCntAlarmHi v s
  | .rdSwCtrl => Sys2Proof.Machine.execRdSwCtrl s
  | .wrSwCtrl v => Sys2Proof.Machine.execWrSwCtrl v s
  | .rdSwStatus => Sys2Proof.Machine.execRdSwStatus s
  | .wrSwStatus v => Sys2Proof.Machine.execWrSwStatus v s
  | .rdSwBitrate => Sys2Proof.Machine.execRdSwBitrate s
  | .wrSwBitrate v => Sys2Proof.Machine.execWrSwBitrate v s
  | .rdSwHalf => Sys2Proof.Machine.execRdSwHalf s
  | .wrSwHalf v => Sys2Proof.Machine.execWrSwHalf v s
  | .rdSwAddr => Sys2Proof.Machine.execRdSwAddr s
  | .wrSwAddr v => Sys2Proof.Machine.execWrSwAddr v s
  | .rdSwLen => Sys2Proof.Machine.execRdSwLen s
  | .wrSwLen v => Sys2Proof.Machine.execWrSwLen v s
  | .rdSwLast => Sys2Proof.Machine.execRdSwLast s
  | .wrSwLast v => Sys2Proof.Machine.execWrSwLast v s
  | .rdCrcCtrl => Sys2Proof.Machine.execRdCrcCtrl s
  | .wrCrcCtrl v => Sys2Proof.Machine.execWrCrcCtrl v s
  | .rdCrcData => Sys2Proof.Machine.execRdCrcData s
  | .wrCrcData v => Sys2Proof.Machine.execWrCrcData v s
  | .rdCrcValue => Sys2Proof.Machine.execRdCrcValue s
  | .wrCrcValue v => Sys2Proof.Machine.execWrCrcValue v s
  | .rdRqStatus => Sys2Proof.Machine.execRdRqStatus s
  | .wrRqStatus v => Sys2Proof.Machine.execWrRqStatus v s
  | .rdRqCmd => Sys2Proof.Machine.execRdRqCmd s
  | .wrRqCmd v => Sys2Proof.Machine.execWrRqCmd v s
  | .rdRqOvf => Sys2Proof.Machine.execRdRqOvf s
  | .wrRqOvf v => Sys2Proof.Machine.execWrRqOvf v s
  | .rdRFlags => Sys2Proof.Machine.execRdRFlags s
  | .wrRFlags v => Sys2Proof.Machine.execWrRFlags v s
  | .rdRPulses => Sys2Proof.Machine.execRdRPulses s
  | .wrRPulses v => Sys2Proof.Machine.execWrRPulses v s
  | .rdRRaw => Sys2Proof.Machine.execRdRRaw s
  | .wrRRaw v => Sys2Proof.Machine.execWrRRaw v s
  | .rdRMinInterval => Sys2Proof.Machine.execRdRMinInterval s
  | .wrRMinInterval v => Sys2Proof.Machine.execWrRMinInterval v s
  | .rdRFreqX1e4 => Sys2Proof.Machine.execRdRFreqX1e4 s
  | .wrRFreqX1e4 v => Sys2Proof.Machine.execWrRFreqX1e4 v s
  | .rdRElapsedLo => Sys2Proof.Machine.execRdRElapsedLo s
  | .wrRElapsedLo v => Sys2Proof.Machine.execWrRElapsedLo v s
  | .rdRElapsedHi => Sys2Proof.Machine.execRdRElapsedHi s
  | .wrRElapsedHi v => Sys2Proof.Machine.execWrRElapsedHi v s
  | .rdRStartLo => Sys2Proof.Machine.execRdRStartLo s
  | .wrRStartLo v => Sys2Proof.Machine.execWrRStartLo v s
  | .rdRStartHi => Sys2Proof.Machine.execRdRStartHi s
  | .wrRStartHi v => Sys2Proof.Machine.execWrRStartHi v s
  | .rdREndLo => Sys2Proof.Machine.execRdREndLo s
  | .wrREndLo v => Sys2Proof.Machine.execWrREndLo v s
  | .rdREndHi => Sys2Proof.Machine.execRdREndHi s
  | .wrREndHi v => Sys2Proof.Machine.execWrREndHi v s
  | .rdFqStatus => Sys2Proof.Machine.execRdFqStatus s
  | .wrFqStatus v => Sys2Proof.Machine.execWrFqStatus v s
  | .rdFqCmd => Sys2Proof.Machine.execRdFqCmd s
  | .wrFqCmd v => Sys2Proof.Machine.execWrFqCmd v s
  | .rdFqOvf => Sys2Proof.Machine.execRdFqOvf s
  | .wrFqOvf v => Sys2Proof.Machine.execWrFqOvf v s
  | .rdFqPush => Sys2Proof.Machine.execRdFqPush s
  | .wrFqPush v => Sys2Proof.Machine.execWrFqPush v s
  | .rdFqData => Sys2Proof.Machine.execRdFqData s
  | .wrFqData v => Sys2Proof.Machine.execWrFqData v s
  | .rdSwBuf j => Sys2Proof.Machine.execRdSwBuf j s
  | .wrSwBuf j v => Sys2Proof.Machine.execWrSwBuf j v s
  | .rdNowLo => Sys2Proof.Machine.execRdNowLo s
  | .wrNowLo v => Sys2Proof.Machine.execWrNowLo v s
  | .rdNowHi => Sys2Proof.Machine.execRdNowHi s
  | .wrNowHi v => Sys2Proof.Machine.execWrNowHi v s
  | .rdIntEn => Sys2Proof.Machine.execRdIntEn s
  | .wrIntEn v => Sys2Proof.Machine.execWrIntEn v s
  | .rdIntStat => Sys2Proof.Machine.execRdIntStat s
  | .wrIntStat v => Sys2Proof.Machine.execWrIntStat v s
  | .evTick => Sys2Proof.Machine.execEvTick s
  | .evSigHigh => Sys2Proof.Machine.execEvSigHigh s
  | .evSigLow => Sys2Proof.Machine.execEvSigLow s
  | .evSyncHigh => Sys2Proof.Machine.execEvSyncHigh s
  | .evSyncLow => Sys2Proof.Machine.execEvSyncLow s
  | .evSwioHigh => Sys2Proof.Machine.execEvSwioHigh s
  | .evSwioLow => Sys2Proof.Machine.execEvSwioLow s
  | .evReset => Sys2Proof.Machine.execEvReset s
  | .rdBuserrSize8 off => Sys2Proof.Machine.execRdBuserrSize8 off s
  | .rdBuserrSize16 off => Sys2Proof.Machine.execRdBuserrSize16 off s
  | .rdBuserrSize64 off => Sys2Proof.Machine.execRdBuserrSize64 off s
  | .wrBuserrSize8 off v => Sys2Proof.Machine.execWrBuserrSize8 off v s
  | .wrBuserrSize16 off v => Sys2Proof.Machine.execWrBuserrSize16 off v s
  | .wrBuserrSize64 off v => Sys2Proof.Machine.execWrBuserrSize64 off v s
  | .rdBuserrAlign1 w => Sys2Proof.Machine.execRdBuserrAlign1 w s
  | .rdBuserrAlign2 w => Sys2Proof.Machine.execRdBuserrAlign2 w s
  | .rdBuserrAlign3 w => Sys2Proof.Machine.execRdBuserrAlign3 w s
  | .wrBuserrAlign1 w v => Sys2Proof.Machine.execWrBuserrAlign1 w v s
  | .wrBuserrAlign2 w v => Sys2Proof.Machine.execWrBuserrAlign2 w v s
  | .wrBuserrAlign3 w v => Sys2Proof.Machine.execWrBuserrAlign3 w v s
  | .rdUnmapped w => Sys2Proof.Machine.execRdUnmapped w s
  | .wrUnmapped w v => Sys2Proof.Machine.execWrUnmapped w v s
  | .reservedClass low => Sys2Proof.Machine.execReservedClass low s
  | .reservedEvtZ4 hi ev => Sys2Proof.Machine.execReservedEvtZ4 hi ev s
  | .reservedEvtZ5 hi ev => Sys2Proof.Machine.execReservedEvtZ5 hi ev s
  | .reservedEvtZ6 hi ev => Sys2Proof.Machine.execReservedEvtZ6 hi ev s
  | .reservedEvtZ7 hi ev => Sys2Proof.Machine.execReservedEvtZ7 hi ev s
  | .reservedEvtZ8 hi ev => Sys2Proof.Machine.execReservedEvtZ8 hi ev s
  | .reservedEvtZ9 hi ev => Sys2Proof.Machine.execReservedEvtZ9 hi ev s
  | .reservedEvtZ10 hi ev => Sys2Proof.Machine.execReservedEvtZ10 hi ev s
  | .reservedEvtZ11 hi ev => Sys2Proof.Machine.execReservedEvtZ11 hi ev s
  | .reservedEvtZ12 hi ev => Sys2Proof.Machine.execReservedEvtZ12 hi ev s
  | .reservedEvtZ13 ev => Sys2Proof.Machine.execReservedEvtZ13 ev s
  | .reservedEvtEv ev => Sys2Proof.Machine.execReservedEvtEv ev s

end Sys2Proof.Machine
end

