-- ==== Sys2Proof/Machine/Step.lean ====
section
/-! DEFINITION. One step: the next operation of the total order is decoded and performed
(20_memory.md R106, R111). -/

namespace Sys2Proof.Machine

/-- One step. A parameter choice outside its range is refused (00_scope.md R9). With no operation pending
nothing happens (log entry 2). Otherwise the next operation is taken; one its agent has no move for is
refused (70_reset_and_hazards.md R475); any other is decoded and performed, and a bus error is recorded
against its agent (R476). -/
def step (s : State) : Host.Outcome State Fault Refusal :=
  if s.params.Valid then
    match takeRequest s with
    | none => .next s
    | some (r, t) =>
      if r.proper then
        match exec (decodeRequest s r) t with
        | .next u => .next (recordFault r.agent u)
        | .fault f => .fault f
        | .refused e => .refused e
      else .refused .agentHasNoMove
  else .refused .parameterOutOfRange

/-- `s` with the instruction whose bits are `w` (numbered as `decodeTableWord` numbers them) as the next
operation of the total order, issued by an agent of its class (log entries 1 and 8). -/
def State.withFetchWord (s : State) (nbits w : Nat) : State :=
  let bits := w % 2 ^ nbits
  let d : Descriptor := BitVec.ofNat 16 bits
  s.setPending (⟨agentOfClass d, d, BitVec.ofNat 32 (bits / 2 ^ 16)⟩ :: s.pending)

end Sys2Proof.Machine
end

