-- ==== Sys2Proof/Machine/Frame.lean ====
section
/-! DEFINITION. The 24-byte binary frame the checksum protects (42_crc_frame.md R300 to R304). Software
assembles it; its layout is normative for software that uses the generator. -/

namespace Sys2Proof.Machine

/-- The payload's fields (R301). `fHzX1e4`, `vUv` and `ppmCorrX1e2` are two's complement. -/
structure FramePayload where
  tsMs : Word
  fHzX1e4 : Word
  tauMs : Half
  vUv : Word
  adcGain : Byte
  flags : Byte
  ppmCorrX1e2 : Half
  mode : Byte
deriving DecidableEq, Repr

/-- A 16-bit field, low byte first (20_memory.md R105). -/
def leBytes16 (x : Half) : List Byte := [x.extractLsb' 0 8, x.extractLsb' 8 8]

/-- A 32-bit field, low byte first (20_memory.md R105). -/
def leBytes32 (x : Word) : List Byte :=
  [x.extractLsb' 0 8, x.extractLsb' 8 8, x.extractLsb' 16 8, x.extractLsb' 24 8]

/-- The 19 payload bytes, packed, little-endian (R301). -/
def FramePayload.bytes (p : FramePayload) : List Byte :=
  leBytes32 p.tsMs ++ leBytes32 p.fHzX1e4 ++ leBytes16 p.tauMs ++ leBytes32 p.vUv ++ [p.adcGain, p.flags] ++
    leBytes16 p.ppmCorrX1e2 ++ [p.mode]

/-- The frame of a payload: header, length, payload, CRC low byte first (R300, R302, R303). -/
def frameOf (payload : List Byte) : List Byte :=
  [Config.frameHdr0, Config.frameHdr1, BitVec.ofNat 8 Config.framePayloadLen] ++ payload ++
    leBytes16 (crc16 payload)

/-- What a reader of a frame recovers: the payload at offset 3 and the transmitted CRC at offset 22, if the
24 bytes begin `55 AA 13` (R304). -/
def readFrame (frame : List Byte) : Option (List Byte × Half) :=
  match frame with
  | h0 :: h1 :: n :: rest =>
    if h0 = Config.frameHdr0 ∧ h1 = Config.frameHdr1 ∧ n = BitVec.ofNat 8 Config.framePayloadLen ∧
        rest.length = Config.framePayloadLen + 2 then
      match rest.drop Config.framePayloadLen with
      | [lo, hi] => some (rest.take Config.framePayloadLen, (hi ++ lo : BitVec 16))
      | _ => none
    else none
  | _ => none

/-- The reader's check: the recomputed CRC equals the transmitted one (R293). -/
def frameValid (frame : List Byte) : Bool :=
  match readFrame frame with
  | some (payload, crc) => crc16 payload == crc
  | none => false

/-- The fields of 19 payload bytes (R301, R304). -/
def FramePayload.ofBytes : List Byte → Option FramePayload
  | [t0, t1, t2, t3, f0, f1, f2, f3, w0, w1, v0, v1, v2, v3, g, fl, p0, p1, m] =>
    some { tsMs := (t3 ++ t2 ++ t1 ++ t0 : BitVec 32), fHzX1e4 := (f3 ++ f2 ++ f1 ++ f0 : BitVec 32),
           tauMs := (w1 ++ w0 : BitVec 16), vUv := (v3 ++ v2 ++ v1 ++ v0 : BitVec 32), adcGain := g,
           flags := fl, ppmCorrX1e2 := (p1 ++ p0 : BitVec 16), mode := m }
  | _ => none

/-- The status bitfield: SYNC active, ADC DRDY timeout, PPS locked, ADC saturated; bits 7:4 are written 0
(R301). -/
def frameFlags (sync drdyTimeout ppsLocked saturated : Bool) : Byte :=
  (0#4 ++ BitVec.ofBool saturated ++ BitVec.ofBool ppsLocked ++ BitVec.ofBool drdyTimeout ++
    BitVec.ofBool sync : BitVec 8)

/-- The frame's frequency field from R_FREQ_X1E4. A value that does not fit an `i32` is written as any value
(93_implementation_defined.md I7; log entry 15). -/
def frameFreq (f : Word) : Word := if f.toNat < 2 ^ 31 then f else Config.frameFreqOverflow f

/-- What software brings to a frame from outside the block: the timestamp, the diode voltage, the ADC's gain and
the four status flags (R301). -/
structure FrameInputs where
  tsMs : Word
  vUv : Word
  adcGain : Byte
  syncActive : Bool
  drdyTimeout : Bool
  ppsLocked : Bool
  adcSaturated : Bool
deriving DecidableEq, Repr

/-- The payload software builds from the popped result in the latch (R301): the frequency from R_FREQ_X1E4, the
window length from CNT_CUR_WINDOW (log entry 23), the correction from CNT_PPM, the mode from R_FLAGS. -/
def FramePayload.ofLatch (x : FrameInputs) (s : State) : FramePayload where
  tsMs := x.tsMs
  fHzX1e4 := frameFreq s.rq.latch.freqX1e4
  tauMs := s.cnt.windowMs
  vUv := x.vUv
  adcGain := x.adcGain
  flags := frameFlags x.syncActive x.drdyTimeout x.ppsLocked x.adcSaturated
  ppmCorrX1e2 := s.cntCfg.ppmX100
  mode := (BitVec.ofBool s.rq.latch.mode.bit).setWidth 8

/-- The frame of the popped result in the latch (R303). -/
def frameFromLatch (x : FrameInputs) (s : State) : List Byte := frameOf (FramePayload.ofLatch x s).bytes

/-- The frame procedure's register writes for a payload: INIT, then one DATA write per byte (R303). -/
def crcWrites (payload : List Byte) : List Instr :=
  .wrCrcCtrl 1 :: payload.map fun b => .wrCrcData (b.setWidth 32)

end Sys2Proof.Machine
end

