-- ==== Sys2Proof/Machine/Assembler.lean ====
section
/-! DEFINITION. The notation of operations (30_encoding.md R139, R140): its lines, the descriptors they
stand for, and the pseudo-operations' expansions. Text.lean reads them from characters. -/

namespace Sys2Proof.Machine

/-- The lines of R139, a register name already resolved to its offset. -/
inductive AsmLine where
  | rd (off : Offset)
  | wr (off : Offset) (v : Word)
  | rd8 (off : Offset)
  | rd16 (off : Offset)
  | rd64 (off : Offset)
  | wr8 (off : Offset) (v : Word)
  | wr16 (off : Offset) (v : Word)
  | wr64 (off : Offset) (v : Word)
  | tick
  | sig (level : Bool)
  | sync (level : Bool)
  | swio (level : Bool)
  | reset
deriving DecidableEq, Repr

/-- The offset a register's name stands for (10_state.md R31). -/
def registerOffset (name : String) : Option Offset :=
  (registerMap.find? fun r => r.1 == name).map fun r => BitVec.ofNat 12 r.2

/-- The descriptor and data of a line (R139). -/
def AsmLine.words : AsmLine → Descriptor × Word
  | .rd off => (0x2000#16 ||| off.setWidth 16, 0)
  | .wr off v => (0x6000#16 ||| off.setWidth 16, v)
  | .rd8 off => (0x0000#16 ||| off.setWidth 16, 0)
  | .rd16 off => (0x1000#16 ||| off.setWidth 16, 0)
  | .rd64 off => (0x3000#16 ||| off.setWidth 16, 0)
  | .wr8 off v => (0x4000#16 ||| off.setWidth 16, v)
  | .wr16 off v => (0x5000#16 ||| off.setWidth 16, v)
  | .wr64 off v => (0x7000#16 ||| off.setWidth 16, v)
  | .tick => (0x8000#16, 0)
  | .sig level => (if level then 0x8001#16 else 0x8002#16, 0)
  | .sync level => (if level then 0x8003#16 else 0x8004#16, 0)
  | .swio level => (if level then 0x8005#16 else 0x8006#16, 0)
  | .reset => (0x8007#16, 0)

/-- The request of a line issued by an agent (R139: a prefix names the agent and changes no encoding). -/
def AsmLine.request (a : Agent) (l : AsmLine) : Request := ⟨a, l.words.1, l.words.2⟩

/-- The pseudo-operations of R140. -/
inductive Pseudo where
  | tickN (n : Nat)
  | edge
  | armGated (w : Word)
  | armRecip (w : Word)
  | ppm (p : Half)
  | frac (f : Word)
  | popr
  | popf
  | pushf (v : Word)
  | crcinit
  | crc (bytes : List Byte)
  | swread (a l : Word)
  | swclr
  | rep (n : Nat) (body : List AsmLine)
deriving DecidableEq, Repr

/-- The lines a pseudo-operation expands to (R140). It is not atomic: other agents' operations may fall
between its lines. -/
def Pseudo.expand : Pseudo → List AsmLine
  | .tickN n => List.replicate n .tick
  | .edge => [.sig true, .sig false]
  | .armGated w => [.wr 0x004#12 w, .wr 0x000#12 2]
  | .armRecip w => [.wr 0x004#12 w, .wr 0x000#12 3]
  | .ppm p => [.wr 0x008#12 (p.setWidth 32)]
  | .frac f => [.wr 0x00C#12 f]
  | .popr => [.wr 0x304#12 1]
  | .popf => [.wr 0x384#12 1]
  | .pushf v => [.wr 0x38C#12 v]
  | .crcinit => [.wr 0x200#12 1]
  | .crc bytes => bytes.map fun b => .wr 0x204#12 (b.setWidth 32)
  | .swread a l => [.wr 0x110#12 a, .wr 0x114#12 l, .wr 0x100#12 1]
  | .swclr => [.wr 0x100#12 2]
  | .rep n body => (List.replicate n body).flatten

end Sys2Proof.Machine
end

