-- ==== Sys2Proof/Machine/Text.lean ====
section
/-! DEFINITION. The text of operations (30_encoding.md R139, R140): a line of characters read as the requests
it stands for. What the rules leave open about the characters is log entry 19. -/

namespace Sys2Proof.Machine

/-! ## Words and numbers -/

/-- Blanks separate words. -/
def isBlank (c : Char) : Bool := c == ' ' || c == '\t' || c == '\r'

/-- The word collected so far, if there is one. -/
def flushWord (cur : List Char) : List String := if cur.isEmpty then [] else [String.ofList cur]

/-- The words of a line; a comma is a word of its own. -/
def splitWords (cur : List Char) : List Char → List String
  | [] => flushWord cur
  | c :: cs =>
    if isBlank c then flushWord cur ++ splitWords [] cs
    else if c == ',' then flushWord cur ++ "," :: splitWords [] cs
    else splitWords (cur ++ [c]) cs

/-- A line without its comment: `;` or `#` starts one (R139). -/
def dropComment (line : List Char) : List Char := line.takeWhile fun c => c != ';' && c != '#'

/-- The value of a digit. -/
def digitValue (c : Char) : Option Nat :=
  let n := c.toNat
  if 48 ≤ n ∧ n ≤ 57 then some (n - 48)
  else if 97 ≤ n ∧ n ≤ 102 then some (n - 87)
  else if 65 ≤ n ∧ n ≤ 70 then some (n - 55)
  else none

/-- The number a sequence of digits writes in a base, after the digits that gave `acc`. -/
def readDigits (base acc : Nat) : List Char → Option Nat
  | [] => some acc
  | c :: cs =>
    match digitValue c with
    | some d => if d < base then readDigits base (acc * base + d) cs else none
    | none => none

/-- A decimal or `0x` hexadecimal number (R139). -/
def readNumber (w : String) : Option Nat :=
  match w.toList with
  | '0' :: 'x' :: c :: cs => readDigits 16 0 (c :: cs)
  | c :: cs => readDigits 10 0 (c :: cs)
  | [] => none

/-- A number below 2^32 (R139). -/
def readWord (w : String) : Option Word :=
  match readNumber w with
  | some n => if n < 2 ^ 32 then some (BitVec.ofNat 32 n) else none
  | none => none

/-- A byte (R140, `crc`). -/
def readByte (w : String) : Option Byte :=
  match readNumber w with
  | some n => if n < 2 ^ 8 then some (BitVec.ofNat 8 n) else none
  | none => none

/-- A signed number's low 16 bits: `P & 0xFFFF` (R140, `ppm`). -/
def readPpm (w : String) : Option Half :=
  match w.toList with
  | '-' :: cs => (readNumber (String.ofList cs)).map fun n => BitVec.ofInt 16 (-(n : Int))
  | cs => (readNumber (String.ofList cs)).map fun n => BitVec.ofNat 16 n

/-- `SW_BUF[j]` names offset `0x400 + 4j` (R139). -/
def readBufIndex (cs : List Char) : Option Offset :=
  match cs.getLast? with
  | some ']' =>
    match readNumber (String.ofList cs.dropLast) with
    | some j => if j < 256 then some (BitVec.ofNat 12 (0x400 + 4 * j)) else none
    | none => none
  | _ => none

/-- A register's name, a word of SW_BUF, or an offset in hexadecimal (R139). -/
def readOffset (w : String) : Option Offset :=
  match registerOffset w with
  | some off => some off
  | none =>
    match w.toList with
    | '0' :: 'x' :: c :: cs =>
      match readDigits 16 0 (c :: cs) with
      | some n => if n < Config.windowBytes then some (BitVec.ofNat 12 n) else none
      | none => none
    | 'S' :: 'W' :: '_' :: 'B' :: 'U' :: 'F' :: '[' :: cs => readBufIndex cs
    | _ => none

/-! ## Lines -/

/-- A write's operands. -/
def readWrite (make : Offset → Word → AsmLine) (a v : String) : Option AsmLine :=
  match readOffset a, readWord v with
  | some off, some x => some (make off x)
  | _, _ => none

/-- A level, 0 or 1. -/
def readLevel (make : Bool → AsmLine) (b : String) : Option AsmLine :=
  if b == "0" then some (make false) else if b == "1" then some (make true) else none

/-- A line of R139. -/
def readLine : List String → Option AsmLine
  | ["rd", a] => (readOffset a).map .rd
  | ["rd8", a] => (readOffset a).map .rd8
  | ["rd16", a] => (readOffset a).map .rd16
  | ["rd64", a] => (readOffset a).map .rd64
  | ["wr", a, ",", v] => readWrite .wr a v
  | ["wr8", a, ",", v] => readWrite .wr8 a v
  | ["wr16", a, ",", v] => readWrite .wr16 a v
  | ["wr64", a, ",", v] => readWrite .wr64 a v
  | ["tick"] => some .tick
  | ["sig", b] => readLevel .sig b
  | ["sync", b] => readLevel .sync b
  | ["swio", b] => readLevel .swio b
  | ["reset"] => some .reset
  | _ => none

/-- Bytes between commas. -/
def readBytes : List String → Option (List Byte)
  | [] => none
  | [b] => (readByte b).map fun x => [x]
  | b :: c :: rest =>
    if c == "," then
      match readByte b, readBytes rest with
      | some x, some xs => some (x :: xs)
      | _, _ => none
    else none

/-- A pseudo-operation of R140 that is written on a line without a body. -/
def readPseudo : List String → Option Pseudo
  | ["tick", n] => (readNumber n).map .tickN
  | ["edge"] => some .edge
  | ["arm", "gated", ",", w] => (readWord w).map .armGated
  | ["arm", "recip", ",", w] => (readWord w).map .armRecip
  | ["ppm", p] => (readPpm p).map .ppm
  | ["frac", f] => (readWord f).map .frac
  | ["popr"] => some .popr
  | ["popf"] => some .popf
  | ["pushf", v] => (readWord v).map .pushf
  | ["crcinit"] => some .crcinit
  | "crc" :: bytes => (readBytes bytes).map .crc
  | ["swread", a, ",", l] =>
    match readWord a, readWord l with
    | some x, some y => some (.swread x y)
    | _, _ => none
  | ["swclr"] => some .swclr
  | _ => none

/-- The lines that words stand for; none for an empty line. -/
def expandWords (ws : List String) : Option (List AsmLine) :=
  if ws.isEmpty then some []
  else
    match readLine ws with
    | some l => some [l]
    | none => (readPseudo ws).map Pseudo.expand

/-- The bodies of a `rep`, separated by `;`. -/
def splitBody (cur : List Char) : List Char → List (List Char)
  | [] => [cur]
  | c :: cs => if c == ';' then cur :: splitBody [] cs else splitBody (cur ++ [c]) cs

/-- All of a list of results, if none is missing. -/
def joinAll {α : Type} : List (Option (List α)) → Option (List α)
  | [] => some []
  | some x :: rest => (joinAll rest).map fun xs => x ++ xs
  | none :: _ => none

/-- The opening brace of a `rep`. -/
def openBrace : Char := Char.ofNat 123

/-- The closing brace of a `rep`. -/
def closeBrace : Char := Char.ofNat 125

/-- `rep N` with a body in braces on the same line (R140). A line of the body carries no `A:`, `B:` or `E:`
prefix of its own and is no `rep` itself, and a `#` in the body begins no comment: a body with one of these is
not read. R140 says only that the lines of the body are written N times: DESIGN CHOICE, log entry 19. -/
def expandRep (head tail : List Char) : Option (List AsmLine) :=
  let body := tail.takeWhile fun c => c != closeBrace
  let after := tail.drop body.length
  match splitWords [] head, after with
  | ["rep", n], _ :: rest =>
    match readNumber n, joinAll ((splitBody [] body).map fun l => expandWords (splitWords [] l)) with
    | some k, some lines =>
      if (splitWords [] (dropComment rest)).isEmpty then some (Pseudo.rep k lines).expand else none
    | _, _ => none
  | _, _ => none

/-- The operations a line without its agent stands for. -/
def expandLine (line : List Char) : Option (List AsmLine) :=
  let head := line.takeWhile fun c => c != openBrace
  match line.drop head.length with
  | [] => expandWords (splitWords [] (dropComment line))
  | _ :: tail =>
    if (dropComment head).length = head.length then expandRep head tail
    else expandWords (splitWords [] (dropComment line))

/-! ## Agents -/

/-- Whether a line is an environment event. -/
def AsmLine.isEvent (l : AsmLine) : Bool := descClass l.words.1 == 0b10#2

/-- The agent written before a line, and the line after it: `A:` or `B:` for a core, `E:` for the environment
(R139). -/
def splitAgent (line : List Char) : Option Agent × List Char :=
  match line.dropWhile isBlank with
  | 'A' :: ':' :: cs => (some (.core .coreA), cs)
  | 'B' :: ':' :: cs => (some (.core .coreB), cs)
  | 'E' :: ':' :: cs => (some .environment, cs)
  | cs => (none, cs)

/-- The request of a line: its agent must be a core for a bus access and the environment for an event. A line
without an agent is core A's or the environment's: DESIGN CHOICE, log entry 19. -/
def AsmLine.requestOf (a : Option Agent) (l : AsmLine) : Option (List Request) :=
  match a, l.isEvent with
  | none, true => some [l.request .environment]
  | none, false => some [l.request (.core .coreA)]
  | some .environment, true => some [l.request .environment]
  | some (.core m), false => some [l.request (.core m)]
  | some .environment, false => none
  | some (.core _), true => none

/-- The requests of a line of text, if it is one (R139, R140). -/
def readText (line : String) : Option (List Request) :=
  let r := splitAgent line.toList
  match expandLine r.2 with
  | some ls => joinAll (ls.map (AsmLine.requestOf r.1))
  | none => none

/-- The requests of a program, line by line. -/
def readProgram (lines : List String) : Option (List Request) := joinAll (lines.map readText)

end Sys2Proof.Machine
end

