-- ==== Sys2Proof/Safety.lean ====
section
/-! DEFINITION. The invariants every operation keeps (40_counter.md R185; 10_state.md R72;
93_implementation_defined.md I14), the terms the statements are written in, and runs. -/

namespace Sys2Proof.Machine

/-! ## The counter (R185) -/

/-- (a): an open window is an armed one, with its start, end and the present in order. -/
abbrev Counter.WindowOrdered (now : Stamp) (c : Counter) : Prop :=
  c.windowOpen = true → c.armed = true ∧ c.startUs.toNat ≤ c.endUs.toNat ∧ c.endUs.toNat ≤ now.toNat

/-- (b): with no window open the window's counts, flags and timestamps are 0. -/
abbrev Counter.ClosedIsClear (c : Counter) : Prop :=
  c.windowOpen = false → c.pulses = 0 ∧ c.glitch = 0 ∧ c.edgeSeen = false ∧ c.syncForced = false ∧
    c.startUs = 0 ∧ c.endUs = 0

/-- (c): an alarm is pending only on an armed GATED measurement. -/
abbrev Counter.AlarmOnlyGated (c : Counter) : Prop :=
  c.alarmPending = true → c.armed = true ∧ c.mode = .gated

/-- (d): an open RECIP window has not reached its target, which is never below the floor of R165. -/
abbrev Counter.BelowTarget (c : Counter) : Prop :=
  Config.recipMinEdges ≤ c.target.toNat ∧
    (c.windowOpen = true → c.mode = .recip → c.pulses.toNat < c.target.toNat)

/-- (e): an open window without a qualifying edge was forced open by SYNC. -/
abbrev Counter.UnseenIsForced (c : Counter) : Prop :=
  c.windowOpen = true → c.edgeSeen = false → c.syncForced = true

/-- The invariants (a) to (e) of R185. -/
abbrev Counter.Inv (now : Stamp) (c : Counter) : Prop :=
  c.WindowOrdered now ∧ c.ClosedIsClear ∧ c.AlarmOnlyGated ∧ c.BelowTarget ∧ c.UnseenIsForced

/-- R184: in an open window the raw count is pulses plus glitches, plus the reference edge unless SYNC opened
the window; stated while the raw count has not saturated. -/
abbrev Counter.RawAccounts (c : Counter) : Prop :=
  c.windowOpen = true → c.raw.toNat < 2 ^ 32 - 1 →
    c.raw.toNat = c.pulses.toNat + c.glitch.toNat + (if c.syncForced then 0 else 1)

/-- With no window open nothing has been counted (R168, R171). -/
abbrev Counter.ClosedIsUncounted (c : Counter) : Prop :=
  c.windowOpen = false → c.raw = 0 ∧ c.pulses = 0 ∧ c.glitch = 0 ∧ c.syncForced = false

/-! ## The engine -/

/-- The phases in which the engine may stand at each sequencer point (41_single_wire.md R237). -/
def phaseFits (sp : SeqPoint) (ph : Phase) : Bool :=
  match sp with
  | .idle => true
  | .wStby => ph == .stby
  | .wHdr => ph == .hdr
  | .wTx1 | .wTx2 => ph == .start || ph == .devaddr || ph == .cmd || ph == .addrh || ph == .addrl || ph == .mak
  | .wRx1 | .wRx2 | .wRx3 => ph == .sak1 || ph == .sak2 || ph == .sak3 || ph == .sak4 || ph == .data

/-- The line is driven at the wait points of a sent level and released at all others (R231 to R239). -/
def drivesAt : SeqPoint → Bool
  | .wStby | .wHdr | .wTx1 | .wTx2 => true
  | .idle | .wRx1 | .wRx2 | .wRx3 => false

/-- A transaction in progress: a wait that has not expired, a latched half-bit period, length and address
within their bounds, and a device address of the probed range (R232, R236 to R240). -/
abbrev Engine.Running (p : Config.Params) (e : Engine) : Prop :=
  e.sp ≠ .idle ∧ 1 ≤ e.wait.toNat ∧
    (Config.halfMinUs ≤ e.h.toNat ∧ e.h.toNat ≤ Config.halfMaxUs) ∧
    (1 ≤ e.l.toNat ∧ e.l.toNat ≤ p.bufCap ∧ e.a.toNat + e.l.toNat ≤ Config.eeSize) ∧
    ((e.phase = .data ∨ e.phase = .mak) → e.i.toNat < e.l.toNat) ∧
    (Config.probeFirst.toNat ≤ e.d.toNat ∧ e.d.toNat ≤ p.probeLast.toNat ∧ e.d.toNat % 2 = 0)

/-- The engine's invariant. -/
abbrev Engine.Inv (p : Config.Params) (e : Engine) : Prop :=
  phaseFits e.sp e.phase = true ∧ e.oe = drivesAt e.sp ∧
    (e.busy = true → e.Running p) ∧ (e.busy = false → e.sp = .idle ∧ e.wait = 0) ∧
    Memory.wf e.buf ∧ (∀ c ∈ e.buf, c.1 < p.bufCap)

/-! ## The state -/

/-- The queue bounds of R72 and I14. -/
abbrev State.QueueBounds (s : State) : Prop :=
  s.rq.entries.length ≤ s.params.rqDepth ∧ s.fq.entries.length ≤ s.params.fqDepth

/-- The invariants every operation keeps. -/
abbrev State.Inv (s : State) : Prop :=
  s.cnt.Inv s.nowUs ∧ s.QueueBounds ∧ s.sw.Inv s.params

/-! ## The address map and the descriptors, as the spec draws them -/

/-- The mapped sub-ranges of 20_memory.md R101. -/
abbrev mappedOffset (bufCap off : Nat) : Prop :=
  off < 0x048 ∨ (0x100 ≤ off ∧ off < 0x11C) ∨ (0x200 ≤ off ∧ off < 0x20C) ∨ (0x300 ≤ off ∧ off < 0x338) ∨
    (0x380 ≤ off ∧ off < 0x394) ∨ (0x400 ≤ off ∧ off < 0x400 + 4 * ((bufCap + 3) / 4)) ∨
    (0xF00 ≤ off ∧ off < 0xF10)

/-- The reserved descriptors of 30_encoding.md R138: class 11, and class 10 with `d[13:4]` not 0 or `d[3:0]`
at least 8. -/
abbrev reservedDescriptor (d : Descriptor) : Prop :=
  d.extractLsb' 14 2 = 0b11#2 ∨
    (d.extractLsb' 14 2 = 0b10#2 ∧ (d.extractLsb' 4 10 ≠ 0#10 ∨ 8 ≤ (d.extractLsb' 0 4).toNat))

/-! ## What a close and an end of transaction leave, in numbers

These restate 40_counter.md R164 to R168, R179 to R181 and 41_single_wire.md R233, R234, R239 without the
model's own procedures, so that a statement can compare the two. -/

/-- `min(n, 2^32 - 1)` as a word. -/
def clamp32 (n : Nat) : Word := BitVec.ofNat 32 (min n (2 ^ 32 - 1))

/-- The live counter with the window's flags, counts and timestamps at 0 (R168). -/
def Counter.cleared (c : Counter) : Counter :=
  { c with windowOpen := false, syncForced := false, edgeSeen := false, pulses := 0, raw := 0, glitch := 0,
           startUs := 0, endUs := 0 }

/-- R165 in numbers. -/
def Counter.targetFor (c : Counter) (windowMs : Half) : Word :=
  clamp32 (max 64 (c.estX1e4.toNat * windowMs.toNat / 10 ^ 7))

/-- R164 in numbers. -/
def intervalFor (est : Word) (frac : Half) : Word :=
  if est = 0 then 0 else clamp32 (max 1 (frac.toNat * 10 ^ 10 / (65536 * est.toNat)))

/-- The counter armed at `t` with a configuration (R161). -/
def Counter.armedAt (cfg : CounterConfig) (t : Stamp) (c : Counter) : Counter :=
  let w : Half := if cfg.windowMs = 0 then 1 else cfg.windowMs
  { c.cleared with
    armed := true, mode := cfg.mode, windowMs := w, target := c.targetFor w,
    alarmPending := decide (cfg.mode = .gated),
    alarmUs := if cfg.mode = .gated then BitVec.ofNat 64 (t.toNat + 1000 * w.toNat) else c.alarmUs }

/-- Whether a close emits: a window is open, with a pulse and with elapsed time (R179). -/
abbrev State.closeEmits (s : State) : Prop :=
  s.cnt.windowOpen = true ∧ s.cnt.pulses ≠ 0 ∧ s.cnt.endUs ≠ s.cnt.startUs

/-- The record of the open window (R181). -/
def State.windowRecord (timeout : Bool) (s : State) : ResultRec where
  mode := s.cnt.mode
  syncForced := s.cnt.syncForced
  timeout := timeout
  pulses := s.cnt.pulses
  raw := s.cnt.raw
  minInterval := s.cnt.minInterval
  freqX1e4 := clamp32 (100 * s.cnt.pulses.toNat * ((10 : Int) ^ 8 + s.cntCfg.ppmX100.toInt).toNat /
    (s.cnt.endUs - s.cnt.startUs).toNat)
  elapsedUs := s.cnt.endUs - s.cnt.startUs
  startUs := s.cnt.startUs
  endUs := s.cnt.endUs

/-- A queue after a push under a depth: evict the oldest if full, then insert (43_queues.md R321). -/
def Queue.pushed {α : Type} (depth : Nat) (x : α) (q : Queue α) : Queue α :=
  { q with entries := (if q.entries.length = depth then q.entries.drop 1 else q.entries) ++ [x],
           ovf := if q.entries.length = depth then clamp32 (q.ovf.toNat + 1) else q.ovf }

/-- A queue after a pop (43_queues.md R321). -/
def Queue.popped {α : Type} (q : Queue α) : Queue α :=
  { q with entries := q.entries.drop 1, latch := q.entries.headD q.latch,
           valid := decide (q.entries ≠ []) }

/-- The state after the open window has been emitted (R181). -/
def State.emitted (timeout : Bool) (s : State) : State :=
  let r := s.windowRecord timeout
  { s with rq := s.rq.pushed s.params.rqDepth r,
           cnt := { s.cnt.cleared with armed := false, alarmPending := false, estX1e4 := r.freqX1e4,
                                       minInterval := intervalFor r.freqX1e4 s.cntCfg.frac } }

/-- The state after the window has been discarded at `t` (R180). -/
def State.discarded (t : Stamp) (s : State) : State :=
  { s with cnt := { s.cnt.cleared with
    target := s.cnt.targetFor s.cnt.windowMs,
    alarmPending := decide (s.cnt.mode = .gated),
    alarmUs := if s.cnt.mode = .gated then BitVec.ofNat 64 (t.toNat + 1000 * s.cnt.windowMs.toNat)
               else s.cnt.alarmUs } }

/-- Whether the alarm fires in the next TICK (R178). -/
abbrev State.alarmDue (s : State) : Prop :=
  s.cnt.armed = true ∧ s.cnt.alarmPending = true ∧ s.cnt.alarmUs.toNat ≤ (s.nowUs + 1).toNat

/-- The engine after `finish(res, dev, len)` (41_single_wire.md R239). -/
def Engine.ended (res : SwResult) (dev : Byte) (len : Half) (e : Engine) : Engine :=
  let good := res = .ok ∧ len ≠ 0
  { e with oe := false, busy := false, done := true, sp := .idle, wait := 0, result := res, dev := dev,
           len := len, lastValid := decide (good ∨ e.lastValid = true),
           lastDev := if good then dev else e.lastDev, lastLen := if good then len else e.lastLen }

/-- The engine in the first half of a sent bit (R233). -/
def Engine.sendingBit (x : Bool) (e : Engine) : Engine :=
  { e with bit := x, oe := true, out := !x, sp := .wTx1, wait := e.h.setWidth 32 }

/-- The engine in the first half of the top bit of a sent byte (R233). -/
def Engine.sendingByte (ph : Phase) (b : Byte) (e : Engine) : Engine :=
  { e with phase := ph, tx := b, k := 7, bit := b.getLsbD 7, oe := true, out := !b.getLsbD 7, sp := .wTx1,
           wait := e.h.setWidth 32 }

/-- The engine before the first sample of a received bit (R234). -/
def Engine.awaitingBit (e : Engine) : Engine :=
  { e with oe := false, sp := .wRx1, wait := BitVec.ofNat 32 (e.h.toNat / 2) }

/-- The engine in the standby pulse of an attempt (R237). -/
def Engine.inStandby (p : Config.Params) (e : Engine) : Engine :=
  { e with phase := .stby, oe := true, out := true, sp := .wStby, wait := p.tStby }

/-- The state after a TICK in which the alarm is not due and the engine becomes `e` (44_timebase_irq.md R360). -/
def State.ticked (e : Engine) (s : State) : State :=
  { s with nowUs := s.nowUs + 1, response := .none, sw := e }

/-- A TICK in which the engine's wait expires and the alarm is not due. -/
abbrev State.waitExpires (s : State) : Prop := ¬ s.alarmDue ∧ s.sw.busy = true ∧ s.sw.wait = 1

/-! ## The checksum as a long division (42_crc_frame.md R293) -/

/-- One step of a long division by x^16 + x^12 + x^5 + 1 over GF(2): bring down a bit, and subtract the
generator if a 1 left the register. -/
def divisionStep (r : Half) (b : Bool) : Half :=
  let x := (r <<< 1) ||| (BitVec.ofBool b).setWidth 16
  if r.getLsbD 15 then x ^^^ 0x1021#16 else x

/-- The remainder of a polynomial, its coefficients listed from the highest power. -/
def polyRemainder (bits : List Bool) : Half := bits.foldl divisionStep 0

/-- The bits of a byte, most significant first. -/
def bitsOf (b : Byte) : List Bool :=
  [b.getLsbD 7, b.getLsbD 6, b.getLsbD 5, b.getLsbD 4, b.getLsbD 3, b.getLsbD 2, b.getLsbD 1, b.getLsbD 0]

/-- The dividend of a message: its bits and 16 zeros, the first 16 of them inverted by the initial value
0xFFFF. -/
def dividendOf (bytes : List Byte) : List Bool :=
  let bits := bytes.flatMap bitsOf ++ List.replicate 16 false
  (bits.take 16).map (!·) ++ bits.drop 16

/-! ## Runs -/

/-- `n` TICKs in a row. -/
def ticks (n : Nat) : List Instr := List.replicate n .evTick

/-- A finite sequence of operations performed in order (70_reset_and_hazards.md R477). -/
def performAll : List Instr → State → Host.Outcome State Fault Refusal
  | [], s => .next s
  | i :: is, s =>
    match exec i s with
    | .next t => performAll is t
    | .fault f => .fault f
    | .refused r => .refused r

end Sys2Proof.Machine
end

