-- ==== Sys2Proof/Certificates/Slice0/Obligations.lean ====
section
/-! DEFINITION. The statements about RPS-FC, for the provers. An equation `exec i s = .next { s with … }` gives
the whole next state: every field of the state that it does not name, each byte of the data buffer among them,
is as before. -/

open Sys2Proof Sys2Proof.Machine

/-! ## Encoding -/

/-- Every well-formed operation is what its own words decode to (30_encoding.md R131 to R135). -/
def Obligations.DecodeInvertsEncode : Prop :=
  ∀ (cap : Nat) (i : Instr), i.wellFormed cap = true → decode cap (encode i).1 (encode i).2 = i

/-- Every descriptor decodes to a well-formed operation whose words are that descriptor, and the data operand
if it is a write: no bit is dropped (R134, R136). -/
def Obligations.EncodeInvertsDecode : Prop :=
  ∀ (cap : Nat) (d : Descriptor) (v : Word),
    (decode cap d v).wellFormed cap = true ∧
      encode (decode cap d v) = (d, if (decode cap d v).isWrite then v else 0)

/-- The worked encodings of R141. -/
def Obligations.WorkedEncodingsDecode : Prop :=
  ∀ cap : Nat, 8 ≤ cap → cap ≤ 1024 →
    decode cap 0x6000#16 3#32 = .wrCntCtrl 3#32 ∧
    decode cap 0x2010#16 0#32 = .rdCntStatus ∧
    decode cap 0x638C#16 0xDEADBEEF#32 = .wrFqPush 0xDEADBEEF#32 ∧
    decode cap 0x2404#16 0#32 = .rdSwBuf 1#8 ∧
    decode cap 0x1010#16 0#32 = .rdBuserrSize16 0x010#12 ∧
    decode cap 0x2012#16 0#32 = .rdBuserrAlign2 4#10 ∧
    decode cap 0x2800#16 0#32 = .rdUnmapped 0x200#10 ∧
    decode cap 0x8003#16 0#32 = .evSyncHigh ∧
    decode cap 0xC000#16 0#32 = .reservedClass 0#14

/-! ## Bus errors, unmapped offsets, reserved descriptors -/

/-- R102, R103, R401: a bus access that is not 32 bits wide is answered BusError(SIZE); one that is, at an
offset with `d[1:0]` not 00, BusError(ALIGN), so SIZE wins where both apply; neither changes any state; and an
aligned 32-bit access is answered without a bus error. -/
def Obligations.NarrowOrMisalignedAccessIsBusError : Prop :=
  ∀ (cap : Nat) (d : Descriptor) (v : Word) (s : State), d.getLsbD 15 = false →
    (d.extractLsb' 12 2 ≠ 0b10#2 → exec (decode cap d v) s = .next { s with response := .error .size }) ∧
    (d.extractLsb' 12 2 = 0b10#2 → d.extractLsb' 0 2 ≠ 0b00#2 →
      exec (decode cap d v) s = .next { s with response := .error .align }) ∧
    (d.extractLsb' 12 2 = 0b10#2 → d.extractLsb' 0 2 = 0b00#2 →
      ∃ t, exec (decode cap d v) s = .next t ∧ ∀ k, t.response ≠ .error k)

/-- R402: every bus error row answers its error, with the codes 1 and 2, and changes nothing else. -/
def Obligations.BusErrorRowsAnswerTheirCode : Prop :=
  busErrorCode .size = 1 ∧ busErrorCode .align = 2 ∧
  ∀ (off : Offset) (w : BitVec 10) (v : Word) (s : State),
    exec (.rdBuserrSize8 off) s = .next { s with response := .error .size } ∧
    exec (.rdBuserrSize16 off) s = .next { s with response := .error .size } ∧
    exec (.rdBuserrSize64 off) s = .next { s with response := .error .size } ∧
    exec (.wrBuserrSize8 off v) s = .next { s with response := .error .size } ∧
    exec (.wrBuserrSize16 off v) s = .next { s with response := .error .size } ∧
    exec (.wrBuserrSize64 off v) s = .next { s with response := .error .size } ∧
    exec (.rdBuserrAlign1 w) s = .next { s with response := .error .align } ∧
    exec (.rdBuserrAlign2 w) s = .next { s with response := .error .align } ∧
    exec (.rdBuserrAlign3 w) s = .next { s with response := .error .align } ∧
    exec (.wrBuserrAlign1 w v) s = .next { s with response := .error .align } ∧
    exec (.wrBuserrAlign2 w v) s = .next { s with response := .error .align } ∧
    exec (.wrBuserrAlign3 w v) s = .next { s with response := .error .align }

/-- R375: at an aligned offset outside the mapped sub-ranges of R101 a 32-bit read answers 0 and a 32-bit
write is acknowledged, with no state change; at a mapped one the access is a register's. -/
def Obligations.UnmappedOffsetsReadZeroIgnoreWrites : Prop :=
  ∀ (cap : Nat) (off : Offset) (v : Word) (s : State), 8 ≤ cap → cap ≤ 1024 → off.toNat % 4 = 0 →
    (¬ mappedOffset cap off.toNat →
      (∃ w, decode cap (0x2000#16 ||| off.setWidth 16) v = .rdUnmapped w ∧
        exec (.rdUnmapped w) s = .next { s with response := .data 0 }) ∧
      (∃ w, decode cap (0x6000#16 ||| off.setWidth 16) v = .wrUnmapped w v ∧
        exec (.wrUnmapped w v) s = .next { s with response := .ack })) ∧
    (mappedOffset cap off.toNat →
      (∀ w, decode cap (0x2000#16 ||| off.setWidth 16) v ≠ .rdUnmapped w) ∧
      (∀ w, decode cap (0x6000#16 ||| off.setWidth 16) v ≠ .wrUnmapped w v))

/-- R138, R404: exactly the reserved descriptors are refused; every other operation answers a next state in
every state (R476: every operation is enabled). -/
def Obligations.ReservedDescriptorsAreTheOnlyRefusals : Prop :=
  ∀ (cap : Nat) (d : Descriptor) (v : Word) (s : State),
    (reservedDescriptor d → ∃ r, exec (decode cap d v) s = .refused r) ∧
    (¬ reservedDescriptor d → ∃ t, exec (decode cap d v) s = .next t)

/-- R138: the twelve reserved rows are refused by name. -/
def Obligations.ReservedRowsAreRefused : Prop :=
  ∀ (low : BitVec 14) (z9 : BitVec 9) (z8 : BitVec 8) (z7 : BitVec 7) (z6 : BitVec 6) (z5 : BitVec 5)
    (z4 : BitVec 4) (z3 : BitVec 3) (z2 : BitVec 2) (z1 : BitVec 1) (ev : BitVec 4) (code : BitVec 3)
    (s : State),
    exec (.reservedClass low) s = .refused .reservedClass ∧
    exec (.reservedEvtZ4 z9 ev) s = .refused .reservedEventBits ∧
    exec (.reservedEvtZ5 z8 ev) s = .refused .reservedEventBits ∧
    exec (.reservedEvtZ6 z7 ev) s = .refused .reservedEventBits ∧
    exec (.reservedEvtZ7 z6 ev) s = .refused .reservedEventBits ∧
    exec (.reservedEvtZ8 z5 ev) s = .refused .reservedEventBits ∧
    exec (.reservedEvtZ9 z4 ev) s = .refused .reservedEventBits ∧
    exec (.reservedEvtZ10 z3 ev) s = .refused .reservedEventBits ∧
    exec (.reservedEvtZ11 z2 ev) s = .refused .reservedEventBits ∧
    exec (.reservedEvtZ12 z1 ev) s = .refused .reservedEventBits ∧
    exec (.reservedEvtZ13 ev) s = .refused .reservedEventBits ∧
    exec (.reservedEvtEv code) s = .refused .reservedEventCode

/-! ## The step -/

/-- A step takes the first pending operation, decodes it and performs it on the rest (R106, R111); an error
response is recorded against the issuer (R476); a refusal leaves no next state. It refuses a core's event and
the environment's bus access, for which the agent has no move (R475). -/
def Obligations.StepPerformsDecodedOperation : Prop :=
  ∀ (s : State) (r : Request) (rest : List Request), s.params.Valid → s.pending = r :: rest →
    let event := r.desc.extractLsb' 14 2 = 0b10#2
    let access := r.desc.getLsbD 15 = false
    let barred := (∃ m, r.agent = .core m ∧ event) ∨ (r.agent = .environment ∧ access)
    (barred → step s = .refused .agentHasNoMove) ∧
    (¬ barred →
      (∀ t, exec (decode s.params.bufCap r.desc r.data) { s with pending := rest } = .next t →
        (∀ k, t.response = .error k → step s = .next { t with faults := t.faults ++ [(r.agent, k)] }) ∧
        ((∀ k, t.response ≠ .error k) → step s = .next t)) ∧
      (∀ e, exec (decode s.params.bufCap r.desc r.data) { s with pending := rest } = .refused e →
        step s = .refused e))

/-- With nothing pending a step changes nothing: a DESIGN CHOICE of the model (log entry 2). -/
def Obligations.StepWithNothingPendingStays : Prop :=
  ∀ s : State, s.params.Valid → s.pending = [] → step s = .next s

/-- R9: a parameter outside the ranges of R8 is rejected. -/
def Obligations.ParametersOutOfRangeAreRejected : Prop :=
  ∀ s : State,
    (s.params.base % 4096 ≠ 0 ∨ s.params.bufCap < 8 ∨ 1024 < s.params.bufCap ∨
      s.params.probeLast.toNat % 2 = 1 ∨ s.params.probeLast.toNat < 0xA0 ∨ 0xFE < s.params.probeLast.toNat ∨
      s.params.tStby = 0 ∨ s.params.tHdr = 0 ∨ s.params.rqDepth < 1 ∨ 255 < s.params.rqDepth ∨
      s.params.fqDepth < 1 ∨ 255 < s.params.fqDepth) →
    step s = .refused .parameterOutOfRange

/-- R476: a BusError is recorded against the issuing master, and the block's state is otherwise as before. A
bus access of the environment's is no move (StepPerformsDecodedOperation). -/
def Obligations.StepRecordsBusErrorAgainstIssuer : Prop :=
  ∀ (s : State) (r : Request) (rest : List Request) (m : Master), s.params.Valid → s.pending = r :: rest →
    r.agent = .core m → r.desc.getLsbD 15 = false →
    (r.desc.extractLsb' 12 2 ≠ 0b10#2 →
      step s = .next { s with pending := rest, response := .error .size,
                              faults := s.faults ++ [(r.agent, .size)] }) ∧
    (r.desc.extractLsb' 12 2 = 0b10#2 → r.desc.extractLsb' 0 2 ≠ 0b00#2 →
      step s = .next { s with pending := rest, response := .error .align,
                              faults := s.faults ++ [(r.agent, .align)] })

/-! ## Reads -/

/-- The counter's configuration registers read back their fields (R32 to R35, R370). -/
def Obligations.ReadsCounterConfiguration : Prop :=
  ∀ s : State,
    exec .rdCntCtrl s = .next { s with response := .data (if s.cntCfg.mode = .recip then 1 else 0) } ∧
    exec .rdCntWindow s = .next { s with response := .data (s.cntCfg.windowMs.setWidth 32) } ∧
    exec .rdCntPpm s = .next { s with response := .data (s.cntCfg.ppmX100.setWidth 32) } ∧
    exec .rdCntFrac s = .next { s with response := .data (s.cntCfg.frac.setWidth 32) }

/-- R36: CNT_STATUS, at offset 0x010, is read-only; each of its bits is a copy of its flag, bits 31:8 are 0,
and the reset value is 0. -/
def Obligations.ReadsCounterStatusBits : Prop :=
  encode .rdCntStatus = (0x2010#16, 0#32) ∧
  (∀ (v : Word) (s : State), exec (.wrCntStatus v) s = .next { s with response := .ack }) ∧
  (∀ s : State, ∃ w : Word, exec .rdCntStatus s = .next { s with response := .data w } ∧
    w.getLsbD 0 = s.cnt.armed ∧ w.getLsbD 1 = s.cnt.windowOpen ∧ w.getLsbD 2 = s.cnt.syncForced ∧
    w.getLsbD 3 = s.cnt.edgeSeen ∧ w.getLsbD 4 = s.cnt.alarmPending ∧
    w.getLsbD 5 = decide (s.cnt.mode = .recip) ∧ w.getLsbD 6 = s.cnt.syncLevel ∧
    w.getLsbD 7 = s.cnt.sigLevel ∧ ∀ n, 8 ≤ n → w.getLsbD n = false) ∧
  ∀ p : Config.Params, exec .rdCntStatus (State.resetWith p) =
    .next { State.resetWith p with response := .data 0 }

/-- The live counter registers (R37 to R46): each answers its field, and the two halves of a timestamp make
it up. -/
def Obligations.ReadsLiveCounter : Prop :=
  ∀ s : State,
    exec .rdCntCurWindow s = .next { s with response := .data (s.cnt.windowMs.setWidth 32) } ∧
    exec .rdCntPulses s = .next { s with response := .data s.cnt.pulses } ∧
    exec .rdCntRaw s = .next { s with response := .data s.cnt.raw } ∧
    exec .rdCntGlitch s = .next { s with response := .data s.cnt.glitch } ∧
    exec .rdCntTarget s = .next { s with response := .data s.cnt.target } ∧
    exec .rdCntMinInterval s = .next { s with response := .data s.cnt.minInterval } ∧
    exec .rdCntEstimate s = .next { s with response := .data s.cnt.estX1e4 } ∧
    (∃ lo hi : Word, exec .rdCntStartLo s = .next { s with response := .data lo } ∧
      exec .rdCntStartHi s = .next { s with response := .data hi } ∧
      s.cnt.startUs.toNat = hi.toNat * 2 ^ 32 + lo.toNat) ∧
    (∃ lo hi : Word, exec .rdCntEndLo s = .next { s with response := .data lo } ∧
      exec .rdCntEndHi s = .next { s with response := .data hi } ∧
      s.cnt.endUs.toNat = hi.toNat * 2 ^ 32 + lo.toNat) ∧
    (∃ lo hi : Word, exec .rdCntAlarmLo s = .next { s with response := .data lo } ∧
      exec .rdCntAlarmHi s = .next { s with response := .data hi } ∧
      s.cnt.alarmUs.toNat = hi.toNat * 2 ^ 32 + lo.toNat)

/-- The single-wire configuration registers (R49 to R52); SW_HALF follows `half_us` of R232. -/
def Obligations.ReadsSingleWireConfiguration : Prop :=
  ∀ s : State,
    exec .rdSwBitrate s = .next { s with response := .data s.swCfg.bitrate } ∧
    exec .rdSwAddr s = .next { s with response := .data (s.swCfg.addr.setWidth 32) } ∧
    exec .rdSwLen s = .next { s with response := .data (s.swCfg.len.setWidth 32) } ∧
    (s.swCfg.bitrate = 0 → exec .rdSwHalf s = .next { s with response := .data 200 }) ∧
    (s.swCfg.bitrate ≠ 0 → ∃ w : Word, exec .rdSwHalf s = .next { s with response := .data w } ∧
      w.toNat = max 5 (min (500000 / s.swCfg.bitrate.toNat) 200))

/-- SW_STATUS and SW_LAST (R48, R53, codes of R405): each field is a copy, reserved bits are 0. -/
def Obligations.ReadsSingleWireStatusBits : Prop :=
  ∀ s : State,
    (∃ w : Word, exec .rdSwStatus s = .next { s with response := .data w } ∧
      w.getLsbD 0 = s.sw.busy ∧ w.getLsbD 1 = s.sw.done ∧
      (w.extractLsb' 2 2).toNat = (match s.sw.result with
        | .ok => 0
        | .noDevice => 1
        | .ioError => 2
        | .range => 3) ∧
      w.extractLsb' 4 4 = 0 ∧ w.extractLsb' 8 8 = s.sw.dev ∧ w.extractLsb' 16 16 = s.sw.len) ∧
    (∃ w : Word, exec .rdSwLast s = .next { s with response := .data w } ∧
      w.extractLsb' 0 8 = s.sw.lastDev ∧ w.getLsbD 8 = s.sw.lastValid ∧ w.extractLsb' 9 7 = 0 ∧
      w.extractLsb' 16 16 = s.sw.lastLen)

/-- SW_BUF[j] packs buffer bytes 4j to 4j+3 little-endian, a byte at or above BUF_CAP as 0 (R54, R104). -/
def Obligations.ReadsDataBufferLittleEndian : Prop :=
  ∀ (s : State) (j : BitVec 8), ∃ w : Word,
    exec (.rdSwBuf j) s = .next { s with response := .data w } ∧
    ∀ k, k < 4 → w.extractLsb' (8 * k) 8 =
      if 4 * j.toNat + k < s.params.bufCap then Memory.read s.sw.buf (4 * j.toNat + k) else 0

/-- R377: the write-only registers read 0; CNT_CTRL's ARM bit reads 0 and its MODE bit as stored. -/
def Obligations.WriteOnlyRegistersReadZero : Prop :=
  ∀ s : State,
    exec .rdSwCtrl s = .next { s with response := .data 0 } ∧
    exec .rdCrcCtrl s = .next { s with response := .data 0 } ∧
    exec .rdCrcData s = .next { s with response := .data 0 } ∧
    exec .rdRqCmd s = .next { s with response := .data 0 } ∧
    exec .rdFqCmd s = .next { s with response := .data 0 } ∧
    exec .rdFqPush s = .next { s with response := .data 0 } ∧
    ∃ w : Word, exec .rdCntCtrl s = .next { s with response := .data w } ∧ w.getLsbD 1 = false ∧
      w.getLsbD 0 = decide (s.cntCfg.mode = .recip)

/-- RQ_STATUS and FQ_STATUS: COUNT is the length, EMPTY and FULL follow from it, VALID is the flag, other bits
are 0 (R58, R62, R333), for queues within their depths, as the invariant has them. -/
def Obligations.ReadsQueueStatusFromLengths : Prop :=
  ∀ s : State, s.params.Valid → s.QueueBounds →
    (∃ w : Word, exec .rdRqStatus s = .next { s with response := .data w } ∧
      (w.extractLsb' 0 8).toNat = s.rq.entries.length ∧
      w.getLsbD 8 = decide (s.rq.entries = []) ∧
      w.getLsbD 9 = decide (s.rq.entries.length = s.params.rqDepth) ∧
      w.getLsbD 10 = s.rq.valid ∧ ∀ n, 11 ≤ n → w.getLsbD n = false) ∧
    (∃ w : Word, exec .rdFqStatus s = .next { s with response := .data w } ∧
      (w.extractLsb' 0 8).toNat = s.fq.entries.length ∧
      w.getLsbD 8 = decide (s.fq.entries = []) ∧
      w.getLsbD 9 = decide (s.fq.entries.length = s.params.fqDepth) ∧
      w.getLsbD 10 = s.fq.valid ∧ ∀ n, 11 ≤ n → w.getLsbD n = false)

/-- The result latch, FQ_DATA and the overflow counts (R60, R61, R64, R66). -/
def Obligations.ReadsResultLatchAndOverflows : Prop :=
  ∀ s : State,
    exec .rdRqOvf s = .next { s with response := .data s.rq.ovf } ∧
    exec .rdFqOvf s = .next { s with response := .data s.fq.ovf } ∧
    exec .rdFqData s = .next { s with response := .data s.fq.latch } ∧
    (∃ w : Word, exec .rdRFlags s = .next { s with response := .data w } ∧
      w.getLsbD 0 = decide (s.rq.latch.mode = .recip) ∧ w.getLsbD 1 = s.rq.latch.syncForced ∧
      w.getLsbD 2 = s.rq.latch.timeout ∧ ∀ n, 3 ≤ n → w.getLsbD n = false) ∧
    exec .rdRPulses s = .next { s with response := .data s.rq.latch.pulses } ∧
    exec .rdRRaw s = .next { s with response := .data s.rq.latch.raw } ∧
    exec .rdRMinInterval s = .next { s with response := .data s.rq.latch.minInterval } ∧
    exec .rdRFreqX1e4 s = .next { s with response := .data s.rq.latch.freqX1e4 } ∧
    (∃ lo hi : Word, exec .rdRElapsedLo s = .next { s with response := .data lo } ∧
      exec .rdRElapsedHi s = .next { s with response := .data hi } ∧
      s.rq.latch.elapsedUs.toNat = hi.toNat * 2 ^ 32 + lo.toNat) ∧
    (∃ lo hi : Word, exec .rdRStartLo s = .next { s with response := .data lo } ∧
      exec .rdRStartHi s = .next { s with response := .data hi } ∧
      s.rq.latch.startUs.toNat = hi.toNat * 2 ^ 32 + lo.toNat) ∧
    (∃ lo hi : Word, exec .rdREndLo s = .next { s with response := .data lo } ∧
      exec .rdREndHi s = .next { s with response := .data hi } ∧
      s.rq.latch.endUs.toNat = hi.toNat * 2 ^ 32 + lo.toNat)

/-- CRC_VALUE, NOW, INT_EN and INT_STAT (R57, R67 to R69). -/
def Obligations.ReadsChecksumTimebaseInterrupts : Prop :=
  ∀ s : State,
    exec .rdCrcValue s = .next { s with response := .data (s.crc.setWidth 32) } ∧
    (∃ lo hi : Word, exec .rdNowLo s = .next { s with response := .data lo } ∧
      exec .rdNowHi s = .next { s with response := .data hi } ∧
      s.nowUs.toNat = hi.toNat * 2 ^ 32 + lo.toNat) ∧
    exec .rdIntEn s = .next { s with response := .data (s.intEn.setWidth 32) } ∧
    (∃ w : Word, exec .rdIntStat s = .next { s with response := .data w } ∧
      w.getLsbD 0 = decide (s.rq.entries ≠ []) ∧ w.getLsbD 1 = decide (s.fq.entries ≠ []) ∧
      w.getLsbD 2 = s.sw.done ∧ ∀ n, 3 ≤ n → w.getLsbD n = false)

/-! ## Writes -/

/-- R376: a write to a read-only register is acknowledged and ignored; RQ_OVF and FQ_OVF clear to 0 on any
write. -/
def Obligations.ReadOnlyWritesAreIgnored : Prop :=
  ∀ (v : Word) (j : BitVec 8) (s : State),
    (∀ i ∈ [Instr.wrCntStatus v, .wrCntCurWindow v, .wrCntPulses v, .wrCntRaw v, .wrCntGlitch v,
        .wrCntTarget v, .wrCntMinInterval v, .wrCntEstimate v, .wrCntStartLo v, .wrCntStartHi v,
        .wrCntEndLo v, .wrCntEndHi v, .wrCntAlarmLo v, .wrCntAlarmHi v, .wrSwStatus v, .wrSwHalf v,
        .wrSwLast v, .wrSwBuf j v, .wrCrcValue v, .wrRqStatus v, .wrRFlags v, .wrRPulses v, .wrRRaw v,
        .wrRMinInterval v, .wrRFreqX1e4 v, .wrRElapsedLo v, .wrRElapsedHi v, .wrRStartLo v, .wrRStartHi v,
        .wrREndLo v, .wrREndHi v, .wrFqStatus v, .wrFqData v, .wrNowLo v, .wrNowHi v, .wrIntStat v],
      exec i s = .next { s with response := .ack }) ∧
    exec (.wrRqOvf v) s = .next { s with response := .ack, rq := { s.rq with ovf := 0 } } ∧
    exec (.wrFqOvf v) s = .next { s with response := .ack, fq := { s.fq with ovf := 0 } }

/-- R160, R161: CNT_CTRL stores MODE = `v[0]`; with ARM = `v[1]` = 1 it arms the counter under the new mode,
abandoning an open window. -/
def Obligations.WriteCntCtrlArms : Prop :=
  ∀ (v : Word) (s : State),
    let cfg := { s.cntCfg with mode := if v.getLsbD 0 then .recip else .gated }
    encode (.wrCntCtrl v) = (0x6000#16, v) ∧
    (v.getLsbD 1 = false → exec (.wrCntCtrl v) s = .next { s with response := .ack, cntCfg := cfg }) ∧
    (v.getLsbD 1 = true → exec (.wrCntCtrl v) s =
      .next { s with response := .ack, cntCfg := cfg, cnt := s.cnt.armedAt cfg s.nowUs })

/-- R162: CNT_WINDOW stores `v[15:0]` and touches no running window; the value is used at the next arm or SYNC
restart, 0 as 1. -/
def Obligations.WriteCntWindowTakesEffectAtArm : Prop :=
  ∀ (v a : Word) (s : State),
    encode (.wrCntWindow v) = (0x6004#16, v) ∧
    exec (.wrCntWindow v) s =
      .next { s with response := .ack, cntCfg := { s.cntCfg with windowMs := v.extractLsb' 0 16 } } ∧
    (a.getLsbD 1 = true → ∃ t, performAll [.wrCntWindow v, .wrCntCtrl a] s = .next t ∧
      t.cntCfg.windowMs.toNat = v.toNat % 2 ^ 16 ∧ t.cnt.windowMs.toNat = max 1 (v.toNat % 2 ^ 16)) ∧
    (s.cnt.syncLevel = false → ∃ t, performAll [.wrCntWindow v, .evSyncHigh] s = .next t ∧
      t.cntCfg.windowMs.toNat = v.toNat % 2 ^ 16 ∧ t.cnt.windowMs.toNat = max 1 (v.toNat % 2 ^ 16))

/-- R167: CNT_FRAC stores `v[15:0]` and recomputes the minimum interval at once by the numbers of R164. -/
def Obligations.WriteCntFracRecomputesInterval : Prop :=
  ∀ (v : Word) (s : State), ∃ mi : Word,
    encode (.wrCntFrac v) = (0x600C#16, v) ∧
    exec (.wrCntFrac v) s =
      .next { s with response := .ack, cntCfg := { s.cntCfg with frac := v.extractLsb' 0 16 },
                     cnt := { s.cnt with minInterval := mi } } ∧
    (s.cnt.estX1e4 = 0 → mi = 0) ∧
    (s.cnt.estX1e4 ≠ 0 → mi.toNat =
      min (max 1 ((v.toNat % 2 ^ 16) * 10 ^ 10 / (65536 * s.cnt.estX1e4.toNat))) (2 ^ 32 - 1))

/-- CNT_PPM and INT_EN store their fields and change nothing else (R163, R381). -/
def Obligations.WriteCntPpmAndIntEnStore : Prop :=
  ∀ (v : Word) (s : State),
    encode (.wrCntPpm v) = (0x6008#16, v) ∧ encode (.wrIntEn v) = (0x6F08#16, v) ∧
    exec (.wrCntPpm v) s =
      .next { s with response := .ack, cntCfg := { s.cntCfg with ppmX100 := v.extractLsb' 0 16 } } ∧
    exec (.wrIntEn v) s = .next { s with response := .ack, intEn := v.extractLsb' 0 3 }

/-- R378: a read-write register stores only its named fields, so reading it back gives the written value with
its reserved bits 0. -/
def Obligations.ReadBackMasksReservedBits : Prop :=
  ∀ (v : Word) (s : State), s.sw.busy = false →
    (∃ t, performAll [.wrCntCtrl v, .rdCntCtrl] s = .next t ∧ t.response = .data (v &&& 0x00000001#32)) ∧
    (∃ t, performAll [.wrCntWindow v, .rdCntWindow] s = .next t ∧
      t.response = .data (v &&& 0x0000FFFF#32)) ∧
    (∃ t, performAll [.wrCntPpm v, .rdCntPpm] s = .next t ∧ t.response = .data (v &&& 0x0000FFFF#32)) ∧
    (∃ t, performAll [.wrCntFrac v, .rdCntFrac] s = .next t ∧ t.response = .data (v &&& 0x0000FFFF#32)) ∧
    (∃ t, performAll [.wrSwBitrate v, .rdSwBitrate] s = .next t ∧ t.response = .data v) ∧
    (∃ t, performAll [.wrSwAddr v, .rdSwAddr] s = .next t ∧ t.response = .data (v &&& 0x0000FFFF#32)) ∧
    (∃ t, performAll [.wrSwLen v, .rdSwLen] s = .next t ∧ t.response = .data (v &&& 0x0000FFFF#32)) ∧
    (∃ t, performAll [.wrIntEn v, .rdIntEn] s = .next t ∧ t.response = .data (v &&& 0x00000007#32))

/-- R243, R244, R245: SW_BITRATE, SW_ADDR and SW_LEN store unless the engine is busy, and are acknowledged
either way. -/
def Obligations.SingleWireConfigurationStoresUnlessBusy : Prop :=
  ∀ (v : Word) (s : State),
    encode (.wrSwBitrate v) = (0x6108#16, v) ∧ encode (.wrSwAddr v) = (0x6110#16, v) ∧
    encode (.wrSwLen v) = (0x6114#16, v) ∧
    (s.sw.busy = true → ∀ i ∈ [Instr.wrSwBitrate v, .wrSwAddr v, .wrSwLen v],
      exec i s = .next { s with response := .ack }) ∧
    (s.sw.busy = false →
      exec (.wrSwBitrate v) s = .next { s with response := .ack, swCfg := { s.swCfg with bitrate := v } } ∧
      exec (.wrSwAddr v) s =
        .next { s with response := .ack, swCfg := { s.swCfg with addr := v.extractLsb' 0 16 } } ∧
      exec (.wrSwLen v) s =
        .next { s with response := .ack, swCfg := { s.swCfg with len := v.extractLsb' 0 16 } })

/-- R235, R236: CLR_DONE clears DONE; START while busy does nothing more; START of an idle engine ends at once
with RANGE for an address of 0x200 or more, at once with OK for a clamped length of 0, and otherwise latches
the half-bit period, the address and the clamped length and begins the first attempt's standby pulse. -/
def Obligations.SingleWireControlStarts : Prop :=
  ∀ (v : Word) (s : State),
    let cleared := { s.sw with done := if v.getLsbD 1 then false else s.sw.done }
    let started := { s.sw with done := false }
    let n := min s.swCfg.len.toNat (min s.params.bufCap (0x200 - s.swCfg.addr.toNat))
    encode (.wrSwCtrl v) = (0x6100#16, v) ∧
    ((v.getLsbD 0 = false ∨ s.sw.busy = true) →
      exec (.wrSwCtrl v) s = .next { s with response := .ack, sw := cleared }) ∧
    (v.getLsbD 0 = true → s.sw.busy = false →
      (0x200 ≤ s.swCfg.addr.toNat →
        exec (.wrSwCtrl v) s = .next { s with response := .ack, sw := started.ended .range 0 0 }) ∧
      (s.swCfg.addr.toNat < 0x200 → n = 0 →
        exec (.wrSwCtrl v) s = .next { s with response := .ack, sw := started.ended .ok 0 0 }) ∧
      (s.swCfg.addr.toNat < 0x200 → n ≠ 0 →
        let half := if s.swCfg.bitrate = 0 then 200 else max 5 (min (500000 / s.swCfg.bitrate.toNat) 200)
        let latched := { started with
          busy := true, h := BitVec.ofNat 8 half, a := s.swCfg.addr, l := BitVec.ofNat 16 n, d := 0xA0#8 }
        exec (.wrSwCtrl v) s =
          .next { s with response := .ack, sw := Engine.inStandby s.params latched }))

/-- R291, R292: INIT loads 0xFFFF; a DATA write feeds `v[7:0]` through eight shifts of the polynomial. The four
check values are of R293's crc16 and are among R294's, which the spec derives from R292. -/
def Obligations.ChecksumInitAndData : Prop :=
  (∀ (v : Word) (s : State),
    encode (.wrCrcCtrl v) = (0x6200#16, v) ∧ encode (.wrCrcData v) = (0x6204#16, v) ∧
    (v.getLsbD 0 = true → exec (.wrCrcCtrl v) s = .next { s with response := .ack, crc := 0xFFFF#16 }) ∧
    (v.getLsbD 0 = false → exec (.wrCrcCtrl v) s = .next { s with response := .ack }) ∧
    exec (.wrCrcData v) s = .next { s with
      response := .ack,
      crc := (List.range 8).foldl
        (fun c _ => if c.getLsbD 15 then (c <<< 1) ^^^ 0x1021#16 else c <<< 1)
        (s.crc ^^^ ((v.extractLsb' 0 8).setWidth 16 <<< 8)) }) ∧
  crc16 [] = 0xFFFF#16 ∧ crc16 [0x00#8] = 0xE1F0#16 ∧ crc16 [0xFF#8] = 0xFF00#16 ∧
  crc16 [0x31#8, 0x32#8, 0x33#8, 0x34#8, 0x35#8, 0x36#8, 0x37#8, 0x38#8, 0x39#8] = 0x29B1#16

/-- R324, R325, R327, R328: POP moves the oldest entry into the latch and sets VALID, or clears VALID on an
empty queue and keeps the latch; PUSH inserts, evicting the oldest word of a full queue and counting it. -/
def Obligations.QueueCommandsPushAndPop : Prop :=
  ∀ (v : Word) (s : State),
    encode (.wrRqCmd v) = (0x6304#16, v) ∧ encode (.wrFqCmd v) = (0x6384#16, v) ∧
    encode (.wrFqPush v) = (0x638C#16, v) ∧
    (v.getLsbD 0 = true →
      exec (.wrRqCmd v) s = .next { s with response := .ack, rq := s.rq.popped } ∧
      exec (.wrFqCmd v) s = .next { s with response := .ack, fq := s.fq.popped }) ∧
    (v.getLsbD 0 = false →
      exec (.wrRqCmd v) s = .next { s with response := .ack } ∧
      exec (.wrFqCmd v) s = .next { s with response := .ack }) ∧
    exec (.wrFqPush v) s = .next { s with response := .ack, fq := s.fq.pushed s.params.fqDepth v }

/-! ## Pin events -/

/-- R246, R247, R175, R170, R171: SWIO events set the input level and nothing else; SIG_LOW only clears its
level; SIG_HIGH with the level already 1 changes nothing, and with the counter not armed only sets the level. -/
def Obligations.LevelEventsWithoutCountedEdge : Prop :=
  (encode .evSigHigh).1 = 0x8001#16 ∧ (encode .evSigLow).1 = 0x8002#16 ∧
  (encode .evSwioHigh).1 = 0x8005#16 ∧ (encode .evSwioLow).1 = 0x8006#16 ∧
  ∀ s : State,
    exec .evSwioHigh s = .next { s with response := .none, sw := { s.sw with swioIn := true } } ∧
    exec .evSwioLow s = .next { s with response := .none, sw := { s.sw with swioIn := false } } ∧
    exec .evSigLow s = .next { s with response := .none, cnt := { s.cnt with sigLevel := false } } ∧
    (s.cnt.sigLevel = true → exec .evSigHigh s = .next { s with response := .none }) ∧
    (s.cnt.sigLevel = false → s.cnt.armed = false →
      exec .evSigHigh s = .next { s with response := .none, cnt := { s.cnt with sigLevel := true } })

/-- R171 to R174, R169: an active edge of an armed counter is raw-counted; it opens a cold window as the
reference edge; closer than the minimum interval to the last qualifying edge it is a glitch and nothing more;
otherwise it counts a pulse and moves the window's end, and closes nothing in GATED mode or below the target. -/
def Obligations.EdgeOpensRejectsOrCounts : Prop :=
  ∀ s : State, s.cnt.sigLevel = false → s.cnt.armed = true →
    let raw := clamp32 (s.cnt.raw.toNat + 1)
    let glitch := s.cnt.edgeSeen = true ∧ (s.nowUs.toNat : Int) - s.cnt.endUs.toNat < s.cnt.minInterval.toNat
    let pulses := clamp32 (s.cnt.pulses.toNat + 1)
    (s.cnt.windowOpen = false → exec .evSigHigh s = .next { s with response := .none, cnt :=
      { s.cnt with sigLevel := true, raw := raw, windowOpen := true, edgeSeen := true, startUs := s.nowUs,
                   endUs := s.nowUs } }) ∧
    (s.cnt.windowOpen = true → glitch → exec .evSigHigh s = .next { s with response := .none, cnt :=
      { s.cnt with sigLevel := true, raw := raw, glitch := clamp32 (s.cnt.glitch.toNat + 1) } }) ∧
    (s.cnt.windowOpen = true → ¬ glitch →
      (s.cnt.mode = .gated ∨ pulses.toNat < s.cnt.target.toNat) →
      exec .evSigHigh s = .next { s with response := .none, cnt :=
        { s.cnt with sigLevel := true, raw := raw, pulses := pulses, endUs := s.nowUs, edgeSeen := true } })

/-- R174, R179 to R181: in RECIP mode the edge that reaches the target closes the window at once: it emits the
record, with timeout 0, when time has elapsed, and discards the window otherwise. -/
def Obligations.RecipTargetClosesWindow : Prop :=
  ∀ s : State, s.cnt.sigLevel = false → s.cnt.armed = true → s.cnt.windowOpen = true → s.cnt.mode = .recip →
    ¬ (s.cnt.edgeSeen = true ∧ (s.nowUs.toNat : Int) - s.cnt.endUs.toNat < s.cnt.minInterval.toNat) →
    s.cnt.target.toNat ≤ (clamp32 (s.cnt.pulses.toNat + 1)).toNat →
    let u := { s with response := .none, cnt :=
      { s.cnt with sigLevel := true, raw := clamp32 (s.cnt.raw.toNat + 1),
                   pulses := clamp32 (s.cnt.pulses.toNat + 1), endUs := s.nowUs, edgeSeen := true } }
    (s.nowUs ≠ s.cnt.startUs → exec .evSigHigh s = .next (u.emitted false)) ∧
    (s.nowUs = s.cnt.startUs → exec .evSigHigh s = .next (u.discarded s.nowUs))

/-- R176: SYNC rising arms the counter and forces a window open at the present time, abandoning a partial one;
with the level already 1 it changes nothing. -/
def Obligations.SyncRisingForcesWindow : Prop :=
  (encode .evSyncHigh).1 = 0x8003#16 ∧ ∀ s : State,
    (s.cnt.syncLevel = true → exec .evSyncHigh s = .next { s with response := .none }) ∧
    (s.cnt.syncLevel = false → exec .evSyncHigh s = .next { s with response := .none, cnt :=
      { s.cnt.armedAt s.cntCfg s.nowUs with
        syncLevel := true, windowOpen := true, syncForced := true, edgeSeen := false, startUs := s.nowUs,
        endUs := s.nowUs } })

/-- R177, R179: SYNC falling closes an open window, emitting it with timeout 0 or discarding it; with no window
open only the level changes; with the level already 0 nothing does. -/
def Obligations.SyncFallingClosesWindow : Prop :=
  (encode .evSyncLow).1 = 0x8004#16 ∧ ∀ s : State,
    let u := { s with response := .none, cnt := { s.cnt with syncLevel := false } }
    (s.cnt.syncLevel = false → exec .evSyncLow s = .next { s with response := .none }) ∧
    (s.cnt.syncLevel = true → ¬ (s.cnt.armed = true ∧ s.cnt.windowOpen = true) →
      exec .evSyncLow s = .next u) ∧
    (s.cnt.syncLevel = true → s.cnt.armed = true → s.cnt.windowOpen = true → s.closeEmits →
      exec .evSyncLow s = .next (u.emitted false)) ∧
    (s.cnt.syncLevel = true → s.cnt.armed = true → s.cnt.windowOpen = true → ¬ s.closeEmits →
      exec .evSyncLow s = .next (u.discarded s.nowUs))

/-! ## Ticks -/

/-- R360, R240: a TICK with no alarm due advances the time by 1, and a busy engine's wait by -1; with the
engine idle nothing else changes. -/
def Obligations.TickAdvancesTimeAndWait : Prop :=
  ∀ s : State, ¬ s.alarmDue →
    (s.sw.busy = false → exec .evTick s = .next (s.ticked s.sw)) ∧
    (s.sw.busy = true → s.sw.wait ≠ 1 →
      exec .evTick s = .next (s.ticked { s.sw with wait := s.sw.wait - 1 }))

/-- R178 to R181: a TICK in which the alarm is due closes the window with timeout 1, emitting or discarding it;
a discard schedules the next alarm from the new time. -/
def Obligations.TickFiresAlarm : Prop :=
  ∀ s : State, s.alarmDue → s.sw.busy = false →
    (s.closeEmits → exec .evTick s = .next ((s.ticked s.sw).emitted true)) ∧
    (¬ s.closeEmits → exec .evTick s = .next ((s.ticked s.sw).discarded (s.nowUs + 1)))

/-- R360: the alarm check and the engine's step touch disjoint state, so neither sees the other's. -/
def Obligations.TickUnitsAreIndependent : Prop :=
  ∀ (s : State) (e : Engine) (c : Counter) (q : Queue ResultRec) (t : State), exec .evTick s = .next t →
    (∃ u, exec .evTick { s with sw := e } = .next u ∧ u.cnt = t.cnt ∧ u.rq = t.rq) ∧
    (∃ u, exec .evTick { s with cnt := c, rq := q } = .next u ∧ u.sw = t.sw)

/-! ## The single-wire process -/

/-- R231, R233, R234, R237: the wait points that only move the line or take a sample. After the standby pulse
the header pulse; after it the start byte; a sent bit's second half at its value; two samples of the input. -/
def Obligations.EngineWaitPointsMoveLineAndSample : Prop :=
  ∀ s : State, s.waitExpires →
    let e := { s.sw with wait := 0 }
    (s.sw.sp = .wStby → exec .evTick s = .next (s.ticked
      { e with phase := .hdr, oe := true, out := false, sp := .wHdr, wait := s.params.tHdr })) ∧
    (s.sw.sp = .wHdr → exec .evTick s = .next (s.ticked (e.sendingByte .start s.params.startByte))) ∧
    (s.sw.sp = .wTx1 → exec .evTick s = .next (s.ticked
      { e with oe := true, out := s.sw.bit, sp := .wTx2, wait := s.sw.h.setWidth 32 })) ∧
    (s.sw.sp = .wRx1 → exec .evTick s = .next (s.ticked
      { e with s1 := s.sw.swioIn, sp := .wRx2, wait := s.sw.h.setWidth 32 })) ∧
    (s.sw.sp = .wRx2 → exec .evTick s = .next (s.ticked
      { e with s2 := s.sw.swioIn, sp := .wRx3,
               wait := BitVec.ofNat 32 (s.sw.h.toNat - s.sw.h.toNat / 2) }))

/-- R233, R237: when a sent bit ends, the next lower bit of the byte follows; after its last bit, the start
byte is followed by the device address, and the other four bytes by their acknowledge slots. -/
def Obligations.EngineSendsBytesMsbFirst : Prop :=
  ∀ s : State, s.waitExpires → s.sw.sp = .wTx2 →
    let e := { s.sw with wait := 0 }
    (s.sw.phase ∈ [Phase.start, .devaddr, .cmd, .addrh, .addrl] → s.sw.k ≠ 0 → exec .evTick s =
      .next (s.ticked ({ e with k := s.sw.k - 1 }.sendingBit (s.sw.tx.getLsbD (s.sw.k.toNat - 1))))) ∧
    (s.sw.k = 0 →
      (s.sw.phase = .start → exec .evTick s = .next (s.ticked (e.sendingByte .devaddr s.sw.d))) ∧
      (s.sw.phase = .devaddr → exec .evTick s = .next (s.ticked { e with phase := .sak1 }.awaitingBit)) ∧
      (s.sw.phase = .cmd → exec .evTick s = .next (s.ticked { e with phase := .sak2 }.awaitingBit)) ∧
      (s.sw.phase = .addrh → exec .evTick s = .next (s.ticked { e with phase := .sak3 }.awaitingBit)) ∧
      (s.sw.phase = .addrl → exec .evTick s = .next (s.ticked { e with phase := .sak4 }.awaitingBit)))

/-- R234, R237, R238: an acknowledge of 1 (samples 0 then 1) continues the attempt; an idle slot goes to the
next device address, or ends with NO_DEVICE after the last; 0 and contention end with IO_ERROR. -/
def Obligations.EngineHandshakeDecides : Prop :=
  ∀ s : State, s.waitExpires → s.sw.sp = .wRx3 → s.sw.phase ∈ [Phase.sak1, .sak2, .sak3, .sak4] →
    let e := { s.sw with wait := 0 }
    let idle := s.params.idleLevel
    (s.sw.s1 = false → s.sw.s2 = true →
      (s.sw.phase = .sak1 → exec .evTick s = .next (s.ticked (e.sendingByte .cmd s.params.readCmd))) ∧
      (s.sw.phase = .sak2 →
        exec .evTick s = .next (s.ticked (e.sendingByte .addrh (s.sw.a.extractLsb' 8 8)))) ∧
      (s.sw.phase = .sak3 →
        exec .evTick s = .next (s.ticked (e.sendingByte .addrl (s.sw.a.extractLsb' 0 8)))) ∧
      (s.sw.phase = .sak4 →
        exec .evTick s = .next (s.ticked { e with phase := .data, i := 0, k := 7 }.awaitingBit))) ∧
    (s.sw.s1 = idle → s.sw.s2 = idle →
      (s.params.probeLast.toNat < s.sw.d.toNat + 2 →
        exec .evTick s = .next (s.ticked (e.ended .noDevice 0 0))) ∧
      (s.sw.d.toNat + 2 ≤ s.params.probeLast.toNat →
        exec .evTick s = .next (s.ticked ({ e with d := s.sw.d + 2 }.inStandby s.params)))) ∧
    ((s.sw.s1 = true ∧ s.sw.s2 = false ∨ s.sw.s1 = !idle ∧ s.sw.s2 = !idle) →
      exec .evTick s = .next (s.ticked (e.ended .ioError s.sw.d 0)))

/-- R234, R237, R241, R242: a data bit is stored at its place in the byte; the last bit of a byte stores the
byte at its index, leaves every other byte of the buffer as it was, and starts the master's acknowledge, 1
while more bytes are wanted; an idle slot or contention ends with IO_ERROR and the bytes stored so far. -/
def Obligations.EngineReceivesDataBytes : Prop :=
  ∀ s : State, s.waitExpires → s.sw.sp = .wRx3 → s.sw.phase = .data → Memory.wf s.sw.buf →
    let e := { s.sw with wait := 0 }
    (∀ b : Bool, s.sw.s1 = !b → s.sw.s2 = b → ∃ rx : Byte,
      (∀ n, n < 8 → rx.getLsbD n = if n = s.sw.k.toNat then b else s.sw.rx.getLsbD n) ∧
      (s.sw.k ≠ 0 → exec .evTick s =
        .next (s.ticked { e with rx := rx, k := s.sw.k - 1 }.awaitingBit)) ∧
      (s.sw.k = 0 → ∃ buf : Memory, Memory.wf buf ∧
        (∀ a, Memory.read buf a = if a = s.sw.i.toNat then rx else Memory.read s.sw.buf a) ∧
        exec .evTick s = .next (s.ticked ({ e with rx := rx, buf := buf, phase := .mak }.sendingBit
          (decide (s.sw.i.toNat + 1 < s.sw.l.toNat)))))) ∧
    (s.sw.s1 = s.sw.s2 → exec .evTick s = .next (s.ticked (e.ended .ioError s.sw.d s.sw.i)))

/-- R237, R241: after the master's acknowledge the next data byte follows, or the transaction ends OK with the
device and the whole length. -/
def Obligations.EngineAcknowledgesOrFinishes : Prop :=
  ∀ s : State, s.waitExpires → s.sw.sp = .wTx2 → s.sw.phase = .mak →
    let e := { s.sw with wait := 0 }
    (s.sw.i.toNat + 1 < s.sw.l.toNat → exec .evTick s =
      .next (s.ticked { e with phase := .data, i := s.sw.i + 1, k := 7 }.awaitingBit)) ∧
    (s.sw.l.toNat ≤ s.sw.i.toNat + 1 →
      exec .evTick s = .next (s.ticked (e.ended .ok s.sw.d s.sw.l)))

/-! ## Reset -/

/-- R440, R441: RESET gives every item of the table its reset value, whatever the state, and the read-only
registers then read as the rule says. The parameters, the operations still to come and the recorded faults are
no items of the table (log entry 21, DEDUCED), and phase 0 is STBY (log entry 10, DEDUCED). -/
def Obligations.ResetRestoresEveryItem : Prop :=
  (encode .evReset).1 = 0x8007#16 ∧
  (∀ s : State, exec .evReset s = .next
    { params := s.params, pending := s.pending, response := .none, faults := s.faults,
      cntCfg := { mode := .gated, windowMs := 100, ppmX100 := 0, frac := 0x4000 },
      cnt := { armed := false, windowOpen := false, syncForced := false, edgeSeen := false, mode := .gated,
               windowMs := 0, pulses := 0, raw := 0, glitch := 0, target := 64, minInterval := 0,
               estX1e4 := 0, startUs := 0, endUs := 0, alarmPending := false, alarmUs := 0,
               sigLevel := false, syncLevel := false },
      swCfg := { bitrate := 20000, addr := 0, len := 0 },
      sw := { busy := false, done := false, result := .ok, dev := 0, len := 0, lastValid := false,
              lastDev := 0, lastLen := 0, buf := [], sp := .idle, wait := 0, h := 0, a := 0, l := 0, d := 0,
              i := 0, k := 0, phase := .stby, tx := 0, bit := false, rx := 0, s1 := false, s2 := false,
              oe := false, out := false, swioIn := s.params.idleLevel },
      crc := 0xFFFF,
      rq := { entries := [], latch := { mode := .gated, syncForced := false, timeout := false, pulses := 0,
                                        raw := 0, minInterval := 0, freqX1e4 := 0, elapsedUs := 0,
                                        startUs := 0, endUs := 0 }, valid := false, ovf := 0 },
      fq := { entries := [], latch := 0, valid := false, ovf := 0 },
      nowUs := 0, intEn := 0 }) ∧
  ∀ (p : Config.Params) (j : BitVec 8), p.Valid →
    let s := State.resetWith p
    exec .rdSwHalf s = .next { s with response := .data 25 } ∧
    exec .rdCntTarget s = .next { s with response := .data 64 } ∧
    exec .rdRqStatus s = .next { s with response := .data 0x100 } ∧
    exec .rdFqStatus s = .next { s with response := .data 0x100 } ∧
    exec .rdCrcValue s = .next { s with response := .data 0xFFFF } ∧
    ∀ i ∈ [Instr.rdCntStatus, .rdCntCurWindow, .rdCntPulses, .rdCntRaw, .rdCntGlitch, .rdCntMinInterval,
        .rdCntEstimate, .rdCntStartLo, .rdCntStartHi, .rdCntEndLo, .rdCntEndHi, .rdCntAlarmLo, .rdCntAlarmHi,
        .rdSwStatus, .rdSwLast, .rdSwBuf j, .rdRqOvf, .rdRFlags, .rdRPulses, .rdRRaw, .rdRMinInterval,
        .rdRFreqX1e4, .rdRElapsedLo, .rdRElapsedHi, .rdRStartLo, .rdRStartHi, .rdREndLo, .rdREndHi, .rdFqOvf,
        .rdFqData, .rdNowLo, .rdNowHi, .rdIntStat],
      exec i s = .next { s with response := .data 0 }

/-! ## Invariants -/

/-- R185 with the queue bounds (R333) and the engine's bounds: every step from every state that has the
invariants gives one that has them, while the timebase does not wrap (R361; log entry 12). -/
def Obligations.StepKeepsInvariants : Prop :=
  ∀ s t : State, s.Inv → s.nowUs.toNat + 1 < 2 ^ 64 → step s = .next t → t.Inv

/-- The invariants hold at reset, for every parameter choice. -/
def Obligations.ResetHasInvariants : Prop :=
  ∀ p : Config.Params, (State.resetWith p).Inv

/-- R184: in an open window the raw count is pulses plus glitches, plus 1 for the reference edge unless SYNC
opened the window, until it saturates; with no window open nothing has been counted. Every operation keeps
this, and it holds at reset. -/
def Obligations.RawCountAccountsForEveryEdge : Prop :=
  (∀ (i : Instr) (s t : State), s.cnt.RawAccounts → s.cnt.ClosedIsUncounted → exec i s = .next t →
    t.cnt.RawAccounts ∧ t.cnt.ClosedIsUncounted) ∧
  ∀ p : Config.Params, (State.resetWith p).cnt.RawAccounts ∧ (State.resetWith p).cnt.ClosedIsUncounted

/-! ## Rules about every operation -/

/-- What each operation may change: whatever changes a part of the state is one of the operations the spec
gives that effect; the configuration of a busy engine is fixed (R456), the latches change only by a POP of
their queue (R453), the buffer only at the byte being received, and the parameters never (R30). -/
def Obligations.OnlyNamedOperationsChangeEachPart : Prop :=
  ∀ (i : Instr) (s t : State), exec i s = .next t → i ≠ .evReset →
    t.params = s.params ∧ t.pending = s.pending ∧ t.faults = s.faults ∧
    (t.cntCfg ≠ s.cntCfg →
      ∃ v, i ∈ [Instr.wrCntCtrl v, .wrCntWindow v, .wrCntPpm v, .wrCntFrac v]) ∧
    (t.cnt ≠ s.cnt → ∃ v, i ∈ [Instr.wrCntCtrl v, .wrCntFrac v, .evTick, .evSigHigh, .evSigLow, .evSyncHigh,
      .evSyncLow]) ∧
    (t.swCfg ≠ s.swCfg →
      s.sw.busy = false ∧ ∃ v, i ∈ [Instr.wrSwBitrate v, .wrSwAddr v, .wrSwLen v]) ∧
    (t.sw ≠ s.sw → ∃ v, i ∈ [Instr.wrSwCtrl v, .evTick, .evSwioHigh, .evSwioLow]) ∧
    (∀ a, Memory.read t.sw.buf a ≠ Memory.read s.sw.buf a →
      i = .evTick ∧ s.sw.busy = true ∧ s.sw.phase = .data ∧ a = s.sw.i.toNat) ∧
    (t.crc ≠ s.crc → ∃ v, i ∈ [Instr.wrCrcCtrl v, .wrCrcData v]) ∧
    (t.rq.entries ≠ s.rq.entries → ∃ v, i ∈ [Instr.wrRqCmd v, .evTick, .evSigHigh, .evSyncLow]) ∧
    ((t.rq.latch ≠ s.rq.latch ∨ t.rq.valid ≠ s.rq.valid) → ∃ v, i = .wrRqCmd v ∧ v.getLsbD 0 = true) ∧
    (t.rq.ovf ≠ s.rq.ovf → ∃ v, i ∈ [Instr.wrRqOvf v, .evTick, .evSigHigh, .evSyncLow]) ∧
    (t.fq.entries ≠ s.fq.entries → ∃ v, i ∈ [Instr.wrFqCmd v, .wrFqPush v]) ∧
    ((t.fq.latch ≠ s.fq.latch ∨ t.fq.valid ≠ s.fq.valid) → ∃ v, i = .wrFqCmd v ∧ v.getLsbD 0 = true) ∧
    (t.fq.ovf ≠ s.fq.ovf → ∃ v, i ∈ [Instr.wrFqOvf v, .wrFqPush v]) ∧
    (t.nowUs ≠ s.nowUs → i = .evTick) ∧
    (t.intEn ≠ s.intEn → ∃ v, i = .wrIntEn v)

/-- R361: the timebase advances by exactly 1 in a TICK, is 0 after RESET and changes in no other operation. -/
def Obligations.TimebaseAdvancesOnlyByTick : Prop :=
  ∀ (i : Instr) (s t : State), exec i s = .next t →
    (i = .evTick → s.nowUs.toNat + 1 < 2 ^ 64 → t.nowUs.toNat = s.nowUs.toNat + 1) ∧
    (i = .evReset → t.nowUs = 0) ∧
    (i ≠ .evTick → i ≠ .evReset → t.nowUs = s.nowUs)

/-- R179, R183: whatever enters the result queue has a pulse and elapsed time, is the newest entry, and has
its timeout flag set only in a TICK, by the alarm. -/
def Obligations.EmittedResultsHavePulsesAndTime : Prop :=
  ∀ (i : Instr) (s t : State), exec i s = .next t → t.rq.entries ≠ s.rq.entries →
    i = .evReset ∨ (∃ v, i = .wrRqCmd v ∧ t.rq.entries = s.rq.entries.drop 1) ∨
    ∃ r, t.rq.entries = (if s.rq.entries.length = s.params.rqDepth then s.rq.entries.drop 1
                         else s.rq.entries) ++ [r] ∧
      r.pulses ≠ 0 ∧ r.elapsedUs ≠ 0 ∧ (r.timeout = true ↔ i = .evTick)

/-- R42, R43, R164: the estimate changes only when a window emits a result, whose frequency it becomes; the
minimum interval changes only then and by a write of CNT_FRAC. RESET apart. -/
def Obligations.EstimateChangesOnlyOnEmit : Prop :=
  ∀ (i : Instr) (s t : State), exec i s = .next t → i ≠ .evReset →
    let emits := ∃ r, t.rq.entries.getLast? = some r ∧ t.rq.entries.length ≠ 0 ∧
      t.cnt.estX1e4 = r.freqX1e4 ∧ t.cnt.minInterval = intervalFor r.freqX1e4 s.cntCfg.frac ∧
      t.cnt.armed = false ∧ s.cnt.armed = true
    (t.cnt.estX1e4 ≠ s.cnt.estX1e4 → emits) ∧
    (t.cnt.minInterval ≠ s.cnt.minInterval → emits ∨ ∃ v, i = .wrCntFrac v)

/-- R414: the block cannot tell its masters apart: whatever operation one of them performs, every other may
perform in its place, with the same answer and the same state, but for whom a bus error is recorded against. -/
def Obligations.MastersAreIndistinguishable : Prop :=
  ∀ (s : State) (d : Descriptor) (v : Word) (rest : List Request) (m n : Master),
    s.pending = ⟨.core m, d, v⟩ :: rest →
    (∀ t, step s = .next t →
      ∃ u, step { s with pending := ⟨.core n, d, v⟩ :: rest } = .next u ∧
        { u with faults := t.faults } = t ∧ u.faults.map (·.2) = t.faults.map (·.2)) ∧
    (∀ e, step s = .refused e → step { s with pending := ⟨.core n, d, v⟩ :: rest } = .refused e)

/-- R380: each interrupt output is its enable AND its condition, it reaches the core its parameter names and no
other, and it falls when its condition is removed. -/
def Obligations.InterruptLinesAreLevels : Prop :=
  ∀ s : State,
    irq0 s = (s.intEn.getLsbD 0 && decide (0 < s.rq.entries.length)) ∧
    irq1 s = (s.intEn.getLsbD 1 && decide (0 < s.fq.entries.length)) ∧
    irq2 s = (s.intEn.getLsbD 2 && s.sw.done) ∧
    (∀ m, (0 ∈ coreInterrupts s m ↔ s.params.irqRoute0 = m ∧ irq0 s = true) ∧
      (1 ∈ coreInterrupts s m ↔ s.params.irqRoute1 = m ∧ irq1 s = true) ∧
      (2 ∈ coreInterrupts s m ↔ s.params.irqRoute2 = m ∧ irq2 s = true)) ∧
    (∃ t, performAll (List.replicate s.rq.entries.length (.wrRqCmd 1)) s = .next t ∧ irq0 t = false) ∧
    (∃ t, performAll (List.replicate s.fq.entries.length (.wrFqCmd 1)) s = .next t ∧ irq1 t = false) ∧
    (∃ t, exec (.wrSwCtrl 2) s = .next t ∧ irq2 t = false)

/-! ## Queues, checksum and frame -/

/-- R331: after any number of pushes into an empty frame queue it holds the last FQ_DEPTH of them in order and
has counted the others; pops return them in that order, and one pop more clears VALID. -/
def Obligations.PushesRetainTheNewestWords : Prop :=
  ∀ (s : State) (xs : List Word), s.fq.entries = [] → s.fq.ovf = 0 → 1 ≤ s.params.fqDepth →
    ∃ t, performAll (xs.map .wrFqPush) s = .next t ∧
      t.fq.entries = xs.drop (xs.length - s.params.fqDepth) ∧
      t.fq.ovf.toNat = min (xs.length - s.params.fqDepth) (2 ^ 32 - 1) ∧
      (∀ k, k < t.fq.entries.length →
        ∃ u, performAll (List.replicate (k + 1) (.wrFqCmd 1)) t = .next u ∧
          t.fq.entries[k]? = some u.fq.latch ∧ u.fq.valid = true) ∧
      (∃ u, performAll (List.replicate (t.fq.entries.length + 1) (.wrFqCmd 1)) t = .next u ∧
        u.fq.valid = false)

/-- R293: the checksum INIT and one DATA write per byte leave is `crc16`, and that is the remainder of a long
division of the message's bits, most significant first, followed by 16 zeros, the first 16 bits inverted by
the initial value, by x^16 + x^12 + x^5 + 1. -/
def Obligations.ChecksumIsPolynomialRemainder : Prop :=
  ∀ bytes : List Byte,
    (∀ s : State, ∃ t, performAll (crcWrites bytes) s = .next t ∧ t.crc = crc16 bytes) ∧
    crc16 bytes = polyRemainder (dividendOf bytes)

/-- R304: decoding a frame gives back its payload and a CRC equal to the payload's, every field decodes to
its encoded value, and the register writes of R303 leave that CRC in CRC_VALUE; with the rule's example. -/
def Obligations.FrameRoundTrip : Prop :=
  (∀ payload : List Byte, payload.length = 19 →
    (frameOf payload).length = 24 ∧ (frameOf payload).take 3 = [0x55#8, 0xAA#8, 0x13#8] ∧
    readFrame (frameOf payload) = some (payload, crc16 payload) ∧ frameValid (frameOf payload) = true) ∧
  (∀ p : FramePayload, p.bytes.length = 19 ∧ FramePayload.ofBytes p.bytes = some p) ∧
  (∀ (payload : List Byte) (s : State),
    ∃ t, performAll (crcWrites payload) s = .next t ∧ t.crc = crc16 payload) ∧
  (FramePayload.bytes
      { tsMs := 0, fHzX1e4 := BitVec.ofInt 32 (-1), tauMs := 65535, vUv := BitVec.ofInt 32 (-600120),
        adcGain := 128, flags := 0x0F, ppmCorrX1e2 := BitVec.ofInt 16 (-25), mode := 0 } =
    [0x00#8, 0x00#8, 0x00#8, 0x00#8, 0xFF#8, 0xFF#8, 0xFF#8, 0xFF#8, 0xFF#8, 0xFF#8, 0xC8#8, 0xD7#8, 0xF6#8,
     0xFF#8, 0x80#8, 0x0F#8, 0xE7#8, 0xFF#8, 0x00#8] ∧
   crc16 [0x00#8, 0x00#8, 0x00#8, 0x00#8, 0xFF#8, 0xFF#8, 0xFF#8, 0xFF#8, 0xFF#8, 0xFF#8, 0xC8#8, 0xD7#8,
     0xF6#8, 0xFF#8, 0x80#8, 0x0F#8, 0xE7#8, 0xFF#8, 0x00#8] = 0x33AA#16)

/-! ## Durations -/

/-- R178, R471: with TICKs alone, an armed GATED counter whose alarm lies `n + 1` microseconds ahead is
untouched by the first `n` of them, and the next one closes its window at the deadline. -/
def Obligations.GatedAlarmFiresOnTime : Prop :=
  ∀ (s : State) (n : Nat), s.cnt.armed = true → s.cnt.alarmPending = true →
    s.cnt.alarmUs.toNat = s.nowUs.toNat + (n + 1) →
    (∃ t, performAll (ticks n) s = .next t ∧ t.cnt = s.cnt ∧ t.rq = s.rq ∧
      t.nowUs.toNat = s.nowUs.toNat + n) ∧
    (∃ t, performAll (ticks (n + 1)) s = .next t ∧ t.nowUs = s.cnt.alarmUs ∧
      (s.closeEmits → t.cnt = (s.emitted true).cnt ∧ t.rq = (s.emitted true).rq) ∧
      (¬ s.closeEmits → t.cnt = (s.discarded s.cnt.alarmUs).cnt ∧ t.rq = s.rq))

/-- R248: with no device on the line a transaction ends with NO_DEVICE after exactly `n * (S + D + 34 H)`
TICKs, for the `n` probed addresses, and is busy until then; it stores nothing. -/
def Obligations.EmptySweepDuration : Prop :=
  ∀ s : State, s.params.Valid → s.sw.busy = false → s.sw.swioIn = s.params.idleLevel →
    s.swCfg.addr.toNat < 0x200 → s.swCfg.len ≠ 0 →
    let h := if s.swCfg.bitrate = 0 then 200 else max 5 (min (500000 / s.swCfg.bitrate.toNat) 200)
    let n := (s.params.probeLast.toNat - 0xA0) / 2 + 1
    let total := n * (s.params.tStby.toNat + s.params.tHdr.toNat + 34 * h)
    (∀ k, k < total → ∃ t, performAll (.wrSwCtrl 1 :: ticks k) s = .next t ∧ t.sw.busy = true) ∧
    (∃ t, performAll (.wrSwCtrl 1 :: ticks total) s = .next t ∧ t.sw.busy = false ∧ t.sw.done = true ∧
      t.sw.result = .noDevice ∧ t.sw.dev = 0 ∧ t.sw.len = 0 ∧ t.sw.buf = s.sw.buf)
end

