-- ==== Sys2Proof/Laws/State.lean ====
section
/-! SUPPORT. What each setter of the state does to each field: one lemma per field per setter. -/

namespace Sys2Proof.Machine

variable (s : State)

/-! ## setPending -/

@[simp] theorem State.setPending_params (x : List Request) : (s.setPending x).params = s.params := rfl
@[simp] theorem State.setPending_pending (x : List Request) : (s.setPending x).pending = x := rfl
@[simp] theorem State.setPending_response (x : List Request) : (s.setPending x).response = s.response := rfl
@[simp] theorem State.setPending_faults (x : List Request) : (s.setPending x).faults = s.faults := rfl
@[simp] theorem State.setPending_cntCfg (x : List Request) : (s.setPending x).cntCfg = s.cntCfg := rfl
@[simp] theorem State.setPending_cnt (x : List Request) : (s.setPending x).cnt = s.cnt := rfl
@[simp] theorem State.setPending_swCfg (x : List Request) : (s.setPending x).swCfg = s.swCfg := rfl
@[simp] theorem State.setPending_sw (x : List Request) : (s.setPending x).sw = s.sw := rfl
@[simp] theorem State.setPending_crc (x : List Request) : (s.setPending x).crc = s.crc := rfl
@[simp] theorem State.setPending_rq (x : List Request) : (s.setPending x).rq = s.rq := rfl
@[simp] theorem State.setPending_fq (x : List Request) : (s.setPending x).fq = s.fq := rfl
@[simp] theorem State.setPending_nowUs (x : List Request) : (s.setPending x).nowUs = s.nowUs := rfl
@[simp] theorem State.setPending_intEn (x : List Request) : (s.setPending x).intEn = s.intEn := rfl

/-! ## setResponse -/

@[simp] theorem State.setResponse_params (x : Response) : (s.setResponse x).params = s.params := rfl
@[simp] theorem State.setResponse_pending (x : Response) : (s.setResponse x).pending = s.pending := rfl
@[simp] theorem State.setResponse_response (x : Response) : (s.setResponse x).response = x := rfl
@[simp] theorem State.setResponse_faults (x : Response) : (s.setResponse x).faults = s.faults := rfl
@[simp] theorem State.setResponse_cntCfg (x : Response) : (s.setResponse x).cntCfg = s.cntCfg := rfl
@[simp] theorem State.setResponse_cnt (x : Response) : (s.setResponse x).cnt = s.cnt := rfl
@[simp] theorem State.setResponse_swCfg (x : Response) : (s.setResponse x).swCfg = s.swCfg := rfl
@[simp] theorem State.setResponse_sw (x : Response) : (s.setResponse x).sw = s.sw := rfl
@[simp] theorem State.setResponse_crc (x : Response) : (s.setResponse x).crc = s.crc := rfl
@[simp] theorem State.setResponse_rq (x : Response) : (s.setResponse x).rq = s.rq := rfl
@[simp] theorem State.setResponse_fq (x : Response) : (s.setResponse x).fq = s.fq := rfl
@[simp] theorem State.setResponse_nowUs (x : Response) : (s.setResponse x).nowUs = s.nowUs := rfl
@[simp] theorem State.setResponse_intEn (x : Response) : (s.setResponse x).intEn = s.intEn := rfl

/-! ## setFaults -/

@[simp] theorem State.setFaults_params (x : List (Agent × BusError)) : (s.setFaults x).params = s.params := rfl
@[simp] theorem State.setFaults_pending (x : List (Agent × BusError)) : (s.setFaults x).pending = s.pending := rfl
@[simp] theorem State.setFaults_response (x : List (Agent × BusError)) : (s.setFaults x).response = s.response := rfl
@[simp] theorem State.setFaults_faults (x : List (Agent × BusError)) : (s.setFaults x).faults = x := rfl
@[simp] theorem State.setFaults_cntCfg (x : List (Agent × BusError)) : (s.setFaults x).cntCfg = s.cntCfg := rfl
@[simp] theorem State.setFaults_cnt (x : List (Agent × BusError)) : (s.setFaults x).cnt = s.cnt := rfl
@[simp] theorem State.setFaults_swCfg (x : List (Agent × BusError)) : (s.setFaults x).swCfg = s.swCfg := rfl
@[simp] theorem State.setFaults_sw (x : List (Agent × BusError)) : (s.setFaults x).sw = s.sw := rfl
@[simp] theorem State.setFaults_crc (x : List (Agent × BusError)) : (s.setFaults x).crc = s.crc := rfl
@[simp] theorem State.setFaults_rq (x : List (Agent × BusError)) : (s.setFaults x).rq = s.rq := rfl
@[simp] theorem State.setFaults_fq (x : List (Agent × BusError)) : (s.setFaults x).fq = s.fq := rfl
@[simp] theorem State.setFaults_nowUs (x : List (Agent × BusError)) : (s.setFaults x).nowUs = s.nowUs := rfl
@[simp] theorem State.setFaults_intEn (x : List (Agent × BusError)) : (s.setFaults x).intEn = s.intEn := rfl

/-! ## setCntCfg -/

@[simp] theorem State.setCntCfg_params (x : CounterConfig) : (s.setCntCfg x).params = s.params := rfl
@[simp] theorem State.setCntCfg_pending (x : CounterConfig) : (s.setCntCfg x).pending = s.pending := rfl
@[simp] theorem State.setCntCfg_response (x : CounterConfig) : (s.setCntCfg x).response = s.response := rfl
@[simp] theorem State.setCntCfg_faults (x : CounterConfig) : (s.setCntCfg x).faults = s.faults := rfl
@[simp] theorem State.setCntCfg_cntCfg (x : CounterConfig) : (s.setCntCfg x).cntCfg = x := rfl
@[simp] theorem State.setCntCfg_cnt (x : CounterConfig) : (s.setCntCfg x).cnt = s.cnt := rfl
@[simp] theorem State.setCntCfg_swCfg (x : CounterConfig) : (s.setCntCfg x).swCfg = s.swCfg := rfl
@[simp] theorem State.setCntCfg_sw (x : CounterConfig) : (s.setCntCfg x).sw = s.sw := rfl
@[simp] theorem State.setCntCfg_crc (x : CounterConfig) : (s.setCntCfg x).crc = s.crc := rfl
@[simp] theorem State.setCntCfg_rq (x : CounterConfig) : (s.setCntCfg x).rq = s.rq := rfl
@[simp] theorem State.setCntCfg_fq (x : CounterConfig) : (s.setCntCfg x).fq = s.fq := rfl
@[simp] theorem State.setCntCfg_nowUs (x : CounterConfig) : (s.setCntCfg x).nowUs = s.nowUs := rfl
@[simp] theorem State.setCntCfg_intEn (x : CounterConfig) : (s.setCntCfg x).intEn = s.intEn := rfl

/-! ## setCnt -/

@[simp] theorem State.setCnt_params (x : Counter) : (s.setCnt x).params = s.params := rfl
@[simp] theorem State.setCnt_pending (x : Counter) : (s.setCnt x).pending = s.pending := rfl
@[simp] theorem State.setCnt_response (x : Counter) : (s.setCnt x).response = s.response := rfl
@[simp] theorem State.setCnt_faults (x : Counter) : (s.setCnt x).faults = s.faults := rfl
@[simp] theorem State.setCnt_cntCfg (x : Counter) : (s.setCnt x).cntCfg = s.cntCfg := rfl
@[simp] theorem State.setCnt_cnt (x : Counter) : (s.setCnt x).cnt = x := rfl
@[simp] theorem State.setCnt_swCfg (x : Counter) : (s.setCnt x).swCfg = s.swCfg := rfl
@[simp] theorem State.setCnt_sw (x : Counter) : (s.setCnt x).sw = s.sw := rfl
@[simp] theorem State.setCnt_crc (x : Counter) : (s.setCnt x).crc = s.crc := rfl
@[simp] theorem State.setCnt_rq (x : Counter) : (s.setCnt x).rq = s.rq := rfl
@[simp] theorem State.setCnt_fq (x : Counter) : (s.setCnt x).fq = s.fq := rfl
@[simp] theorem State.setCnt_nowUs (x : Counter) : (s.setCnt x).nowUs = s.nowUs := rfl
@[simp] theorem State.setCnt_intEn (x : Counter) : (s.setCnt x).intEn = s.intEn := rfl

/-! ## setSwCfg -/

@[simp] theorem State.setSwCfg_params (x : EngineConfig) : (s.setSwCfg x).params = s.params := rfl
@[simp] theorem State.setSwCfg_pending (x : EngineConfig) : (s.setSwCfg x).pending = s.pending := rfl
@[simp] theorem State.setSwCfg_response (x : EngineConfig) : (s.setSwCfg x).response = s.response := rfl
@[simp] theorem State.setSwCfg_faults (x : EngineConfig) : (s.setSwCfg x).faults = s.faults := rfl
@[simp] theorem State.setSwCfg_cntCfg (x : EngineConfig) : (s.setSwCfg x).cntCfg = s.cntCfg := rfl
@[simp] theorem State.setSwCfg_cnt (x : EngineConfig) : (s.setSwCfg x).cnt = s.cnt := rfl
@[simp] theorem State.setSwCfg_swCfg (x : EngineConfig) : (s.setSwCfg x).swCfg = x := rfl
@[simp] theorem State.setSwCfg_sw (x : EngineConfig) : (s.setSwCfg x).sw = s.sw := rfl
@[simp] theorem State.setSwCfg_crc (x : EngineConfig) : (s.setSwCfg x).crc = s.crc := rfl
@[simp] theorem State.setSwCfg_rq (x : EngineConfig) : (s.setSwCfg x).rq = s.rq := rfl
@[simp] theorem State.setSwCfg_fq (x : EngineConfig) : (s.setSwCfg x).fq = s.fq := rfl
@[simp] theorem State.setSwCfg_nowUs (x : EngineConfig) : (s.setSwCfg x).nowUs = s.nowUs := rfl
@[simp] theorem State.setSwCfg_intEn (x : EngineConfig) : (s.setSwCfg x).intEn = s.intEn := rfl

/-! ## setSw -/

@[simp] theorem State.setSw_params (x : Engine) : (s.setSw x).params = s.params := rfl
@[simp] theorem State.setSw_pending (x : Engine) : (s.setSw x).pending = s.pending := rfl
@[simp] theorem State.setSw_response (x : Engine) : (s.setSw x).response = s.response := rfl
@[simp] theorem State.setSw_faults (x : Engine) : (s.setSw x).faults = s.faults := rfl
@[simp] theorem State.setSw_cntCfg (x : Engine) : (s.setSw x).cntCfg = s.cntCfg := rfl
@[simp] theorem State.setSw_cnt (x : Engine) : (s.setSw x).cnt = s.cnt := rfl
@[simp] theorem State.setSw_swCfg (x : Engine) : (s.setSw x).swCfg = s.swCfg := rfl
@[simp] theorem State.setSw_sw (x : Engine) : (s.setSw x).sw = x := rfl
@[simp] theorem State.setSw_crc (x : Engine) : (s.setSw x).crc = s.crc := rfl
@[simp] theorem State.setSw_rq (x : Engine) : (s.setSw x).rq = s.rq := rfl
@[simp] theorem State.setSw_fq (x : Engine) : (s.setSw x).fq = s.fq := rfl
@[simp] theorem State.setSw_nowUs (x : Engine) : (s.setSw x).nowUs = s.nowUs := rfl
@[simp] theorem State.setSw_intEn (x : Engine) : (s.setSw x).intEn = s.intEn := rfl

/-! ## setCrc -/

@[simp] theorem State.setCrc_params (x : Half) : (s.setCrc x).params = s.params := rfl
@[simp] theorem State.setCrc_pending (x : Half) : (s.setCrc x).pending = s.pending := rfl
@[simp] theorem State.setCrc_response (x : Half) : (s.setCrc x).response = s.response := rfl
@[simp] theorem State.setCrc_faults (x : Half) : (s.setCrc x).faults = s.faults := rfl
@[simp] theorem State.setCrc_cntCfg (x : Half) : (s.setCrc x).cntCfg = s.cntCfg := rfl
@[simp] theorem State.setCrc_cnt (x : Half) : (s.setCrc x).cnt = s.cnt := rfl
@[simp] theorem State.setCrc_swCfg (x : Half) : (s.setCrc x).swCfg = s.swCfg := rfl
@[simp] theorem State.setCrc_sw (x : Half) : (s.setCrc x).sw = s.sw := rfl
@[simp] theorem State.setCrc_crc (x : Half) : (s.setCrc x).crc = x := rfl
@[simp] theorem State.setCrc_rq (x : Half) : (s.setCrc x).rq = s.rq := rfl
@[simp] theorem State.setCrc_fq (x : Half) : (s.setCrc x).fq = s.fq := rfl
@[simp] theorem State.setCrc_nowUs (x : Half) : (s.setCrc x).nowUs = s.nowUs := rfl
@[simp] theorem State.setCrc_intEn (x : Half) : (s.setCrc x).intEn = s.intEn := rfl

/-! ## setRq -/

@[simp] theorem State.setRq_params (x : Queue ResultRec) : (s.setRq x).params = s.params := rfl
@[simp] theorem State.setRq_pending (x : Queue ResultRec) : (s.setRq x).pending = s.pending := rfl
@[simp] theorem State.setRq_response (x : Queue ResultRec) : (s.setRq x).response = s.response := rfl
@[simp] theorem State.setRq_faults (x : Queue ResultRec) : (s.setRq x).faults = s.faults := rfl
@[simp] theorem State.setRq_cntCfg (x : Queue ResultRec) : (s.setRq x).cntCfg = s.cntCfg := rfl
@[simp] theorem State.setRq_cnt (x : Queue ResultRec) : (s.setRq x).cnt = s.cnt := rfl
@[simp] theorem State.setRq_swCfg (x : Queue ResultRec) : (s.setRq x).swCfg = s.swCfg := rfl
@[simp] theorem State.setRq_sw (x : Queue ResultRec) : (s.setRq x).sw = s.sw := rfl
@[simp] theorem State.setRq_crc (x : Queue ResultRec) : (s.setRq x).crc = s.crc := rfl
@[simp] theorem State.setRq_rq (x : Queue ResultRec) : (s.setRq x).rq = x := rfl
@[simp] theorem State.setRq_fq (x : Queue ResultRec) : (s.setRq x).fq = s.fq := rfl
@[simp] theorem State.setRq_nowUs (x : Queue ResultRec) : (s.setRq x).nowUs = s.nowUs := rfl
@[simp] theorem State.setRq_intEn (x : Queue ResultRec) : (s.setRq x).intEn = s.intEn := rfl

/-! ## setFq -/

@[simp] theorem State.setFq_params (x : Queue Word) : (s.setFq x).params = s.params := rfl
@[simp] theorem State.setFq_pending (x : Queue Word) : (s.setFq x).pending = s.pending := rfl
@[simp] theorem State.setFq_response (x : Queue Word) : (s.setFq x).response = s.response := rfl
@[simp] theorem State.setFq_faults (x : Queue Word) : (s.setFq x).faults = s.faults := rfl
@[simp] theorem State.setFq_cntCfg (x : Queue Word) : (s.setFq x).cntCfg = s.cntCfg := rfl
@[simp] theorem State.setFq_cnt (x : Queue Word) : (s.setFq x).cnt = s.cnt := rfl
@[simp] theorem State.setFq_swCfg (x : Queue Word) : (s.setFq x).swCfg = s.swCfg := rfl
@[simp] theorem State.setFq_sw (x : Queue Word) : (s.setFq x).sw = s.sw := rfl
@[simp] theorem State.setFq_crc (x : Queue Word) : (s.setFq x).crc = s.crc := rfl
@[simp] theorem State.setFq_rq (x : Queue Word) : (s.setFq x).rq = s.rq := rfl
@[simp] theorem State.setFq_fq (x : Queue Word) : (s.setFq x).fq = x := rfl
@[simp] theorem State.setFq_nowUs (x : Queue Word) : (s.setFq x).nowUs = s.nowUs := rfl
@[simp] theorem State.setFq_intEn (x : Queue Word) : (s.setFq x).intEn = s.intEn := rfl

/-! ## setNow -/

@[simp] theorem State.setNow_params (x : Stamp) : (s.setNow x).params = s.params := rfl
@[simp] theorem State.setNow_pending (x : Stamp) : (s.setNow x).pending = s.pending := rfl
@[simp] theorem State.setNow_response (x : Stamp) : (s.setNow x).response = s.response := rfl
@[simp] theorem State.setNow_faults (x : Stamp) : (s.setNow x).faults = s.faults := rfl
@[simp] theorem State.setNow_cntCfg (x : Stamp) : (s.setNow x).cntCfg = s.cntCfg := rfl
@[simp] theorem State.setNow_cnt (x : Stamp) : (s.setNow x).cnt = s.cnt := rfl
@[simp] theorem State.setNow_swCfg (x : Stamp) : (s.setNow x).swCfg = s.swCfg := rfl
@[simp] theorem State.setNow_sw (x : Stamp) : (s.setNow x).sw = s.sw := rfl
@[simp] theorem State.setNow_crc (x : Stamp) : (s.setNow x).crc = s.crc := rfl
@[simp] theorem State.setNow_rq (x : Stamp) : (s.setNow x).rq = s.rq := rfl
@[simp] theorem State.setNow_fq (x : Stamp) : (s.setNow x).fq = s.fq := rfl
@[simp] theorem State.setNow_nowUs (x : Stamp) : (s.setNow x).nowUs = x := rfl
@[simp] theorem State.setNow_intEn (x : Stamp) : (s.setNow x).intEn = s.intEn := rfl

/-! ## setIntEn -/

@[simp] theorem State.setIntEn_params (x : BitVec 3) : (s.setIntEn x).params = s.params := rfl
@[simp] theorem State.setIntEn_pending (x : BitVec 3) : (s.setIntEn x).pending = s.pending := rfl
@[simp] theorem State.setIntEn_response (x : BitVec 3) : (s.setIntEn x).response = s.response := rfl
@[simp] theorem State.setIntEn_faults (x : BitVec 3) : (s.setIntEn x).faults = s.faults := rfl
@[simp] theorem State.setIntEn_cntCfg (x : BitVec 3) : (s.setIntEn x).cntCfg = s.cntCfg := rfl
@[simp] theorem State.setIntEn_cnt (x : BitVec 3) : (s.setIntEn x).cnt = s.cnt := rfl
@[simp] theorem State.setIntEn_swCfg (x : BitVec 3) : (s.setIntEn x).swCfg = s.swCfg := rfl
@[simp] theorem State.setIntEn_sw (x : BitVec 3) : (s.setIntEn x).sw = s.sw := rfl
@[simp] theorem State.setIntEn_crc (x : BitVec 3) : (s.setIntEn x).crc = s.crc := rfl
@[simp] theorem State.setIntEn_rq (x : BitVec 3) : (s.setIntEn x).rq = s.rq := rfl
@[simp] theorem State.setIntEn_fq (x : BitVec 3) : (s.setIntEn x).fq = s.fq := rfl
@[simp] theorem State.setIntEn_nowUs (x : BitVec 3) : (s.setIntEn x).nowUs = s.nowUs := rfl
@[simp] theorem State.setIntEn_intEn (x : BitVec 3) : (s.setIntEn x).intEn = x := rfl

/-! ## The answers -/

@[simp] theorem answer_params (v : Word) : (answer v s).params = s.params := rfl
@[simp] theorem answer_pending (v : Word) : (answer v s).pending = s.pending := rfl
@[simp] theorem answer_response (v : Word) : (answer v s).response = .data v := rfl
@[simp] theorem answer_faults (v : Word) : (answer v s).faults = s.faults := rfl
@[simp] theorem answer_cntCfg (v : Word) : (answer v s).cntCfg = s.cntCfg := rfl
@[simp] theorem answer_cnt (v : Word) : (answer v s).cnt = s.cnt := rfl
@[simp] theorem answer_swCfg (v : Word) : (answer v s).swCfg = s.swCfg := rfl
@[simp] theorem answer_sw (v : Word) : (answer v s).sw = s.sw := rfl
@[simp] theorem answer_crc (v : Word) : (answer v s).crc = s.crc := rfl
@[simp] theorem answer_rq (v : Word) : (answer v s).rq = s.rq := rfl
@[simp] theorem answer_fq (v : Word) : (answer v s).fq = s.fq := rfl
@[simp] theorem answer_nowUs (v : Word) : (answer v s).nowUs = s.nowUs := rfl
@[simp] theorem answer_intEn (v : Word) : (answer v s).intEn = s.intEn := rfl

@[simp] theorem acknowledge_params : (acknowledge s).params = s.params := rfl
@[simp] theorem acknowledge_pending : (acknowledge s).pending = s.pending := rfl
@[simp] theorem acknowledge_response : (acknowledge s).response = .ack := rfl
@[simp] theorem acknowledge_faults : (acknowledge s).faults = s.faults := rfl
@[simp] theorem acknowledge_cntCfg : (acknowledge s).cntCfg = s.cntCfg := rfl
@[simp] theorem acknowledge_cnt : (acknowledge s).cnt = s.cnt := rfl
@[simp] theorem acknowledge_swCfg : (acknowledge s).swCfg = s.swCfg := rfl
@[simp] theorem acknowledge_sw : (acknowledge s).sw = s.sw := rfl
@[simp] theorem acknowledge_crc : (acknowledge s).crc = s.crc := rfl
@[simp] theorem acknowledge_rq : (acknowledge s).rq = s.rq := rfl
@[simp] theorem acknowledge_fq : (acknowledge s).fq = s.fq := rfl
@[simp] theorem acknowledge_nowUs : (acknowledge s).nowUs = s.nowUs := rfl
@[simp] theorem acknowledge_intEn : (acknowledge s).intEn = s.intEn := rfl

@[simp] theorem noResponse_params : (noResponse s).params = s.params := rfl
@[simp] theorem noResponse_pending : (noResponse s).pending = s.pending := rfl
@[simp] theorem noResponse_response : (noResponse s).response = .none := rfl
@[simp] theorem noResponse_faults : (noResponse s).faults = s.faults := rfl
@[simp] theorem noResponse_cntCfg : (noResponse s).cntCfg = s.cntCfg := rfl
@[simp] theorem noResponse_cnt : (noResponse s).cnt = s.cnt := rfl
@[simp] theorem noResponse_swCfg : (noResponse s).swCfg = s.swCfg := rfl
@[simp] theorem noResponse_sw : (noResponse s).sw = s.sw := rfl
@[simp] theorem noResponse_crc : (noResponse s).crc = s.crc := rfl
@[simp] theorem noResponse_rq : (noResponse s).rq = s.rq := rfl
@[simp] theorem noResponse_fq : (noResponse s).fq = s.fq := rfl
@[simp] theorem noResponse_nowUs : (noResponse s).nowUs = s.nowUs := rfl
@[simp] theorem noResponse_intEn : (noResponse s).intEn = s.intEn := rfl

@[simp] theorem raiseBusError_params (k : BusError) : (raiseBusError k s).params = s.params := rfl
@[simp] theorem raiseBusError_pending (k : BusError) : (raiseBusError k s).pending = s.pending := rfl
@[simp] theorem raiseBusError_response (k : BusError) : (raiseBusError k s).response = .error k := rfl
@[simp] theorem raiseBusError_faults (k : BusError) : (raiseBusError k s).faults = s.faults := rfl
@[simp] theorem raiseBusError_cntCfg (k : BusError) : (raiseBusError k s).cntCfg = s.cntCfg := rfl
@[simp] theorem raiseBusError_cnt (k : BusError) : (raiseBusError k s).cnt = s.cnt := rfl
@[simp] theorem raiseBusError_swCfg (k : BusError) : (raiseBusError k s).swCfg = s.swCfg := rfl
@[simp] theorem raiseBusError_sw (k : BusError) : (raiseBusError k s).sw = s.sw := rfl
@[simp] theorem raiseBusError_crc (k : BusError) : (raiseBusError k s).crc = s.crc := rfl
@[simp] theorem raiseBusError_rq (k : BusError) : (raiseBusError k s).rq = s.rq := rfl
@[simp] theorem raiseBusError_fq (k : BusError) : (raiseBusError k s).fq = s.fq := rfl
@[simp] theorem raiseBusError_nowUs (k : BusError) : (raiseBusError k s).nowUs = s.nowUs := rfl
@[simp] theorem raiseBusError_intEn (k : BusError) : (raiseBusError k s).intEn = s.intEn := rfl

end Sys2Proof.Machine
end

