-- ==== Sys2Proof/Laws/Ops.lean ====
section
/-! SUPPORT. What the shared operations do: saturation, the data buffer, the queues, bus addresses and
taking a request. -/

namespace Sys2Proof.Machine

/-! ## Saturation -/

theorem sat32_toNat (v : Nat) : (sat32 v).toNat = min v (2 ^ 32 - 1) := by
  simp only [sat32, BitVec.toNat_ofNat]
  omega

theorem satInc_toNat (w : Word) : (satInc w).toNat = min (w.toNat + 1) (2 ^ 32 - 1) := sat32_toNat _

theorem satInc_pos (w : Word) : 0 < (satInc w).toNat := by
  rw [satInc_toNat]; omega

/-! ## The data buffer -/

@[simp] theorem Memory.read_nil (a : Nat) : Memory.read [] a = Memory.unlisted := rfl

theorem Memory.read_insert_same (m : Memory) (a : Nat) (b : Byte) :
    Memory.read (Memory.insert m a b) a = b := by
  induction m with
  | nil => simp [Memory.insert, Memory.read]
  | cons c m ih =>
    simp only [Memory.insert]
    split
    · simp [Memory.read]
    · split
      · simp [Memory.read]
      · have : c.1 ≠ a := by omega
        simp [Memory.read, this, ih]

theorem Memory.read_insert_other (m : Memory) {a x : Nat} (b : Byte) (h : x ≠ a) :
    Memory.read (Memory.insert m a b) x = Memory.read m x := by
  induction m with
  | nil => simp [Memory.insert, Memory.read, Ne.symm h]
  | cons c m ih =>
    simp only [Memory.insert]
    split
    · simp [Memory.read, Ne.symm h]
    · split
      · have : c.1 ≠ x := by omega
        simp [Memory.read, this, Ne.symm h]
      · simp [Memory.read, ih]

theorem Memory.read_of_lt {m : Memory} {a : Nat} (h : ∀ c ∈ m, a < c.1) :
    Memory.read m a = Memory.unlisted := by
  induction m with
  | nil => rfl
  | cons c m ih =>
    have hc : c.1 ≠ a := by have := h c (by simp); omega
    simp [Memory.read, hc, ih fun x hx => h x (by simp [hx])]

theorem Memory.read_erase_same {m : Memory} (a : Nat) (h : m.Pairwise (fun x y => x.1 < y.1)) :
    Memory.read (Memory.erase m a) a = Memory.unlisted := by
  induction m with
  | nil => rfl
  | cons c m ih =>
    rw [List.pairwise_cons] at h
    simp only [Memory.erase]
    split
    · rename_i hc
      exact Memory.read_of_lt fun x hx => hc ▸ h.1 x hx
    · rename_i hc
      simp [Memory.read, hc, ih h.2]

theorem Memory.read_erase_other (m : Memory) {a x : Nat} (h : x ≠ a) :
    Memory.read (Memory.erase m a) x = Memory.read m x := by
  induction m with
  | nil => rfl
  | cons c m ih =>
    simp only [Memory.erase]
    split
    · rename_i hc
      have : c.1 ≠ x := by omega
      simp [Memory.read, this]
    · simp [Memory.read, ih]

/-- Reading the byte just written gives it back. -/
theorem Memory.read_write_same {m : Memory} (a : Nat) (b : Byte) (h : Memory.wf m) :
    Memory.read (Memory.write m a b) a = b := by
  unfold Memory.write
  split
  · rename_i hb; rw [Memory.read_erase_same a h.1, hb]
  · exact Memory.read_insert_same m a b

/-- A write leaves every other byte alone. -/
theorem Memory.read_write_other (m : Memory) {a x : Nat} (b : Byte) (h : x ≠ a) :
    Memory.read (Memory.write m a b) x = Memory.read m x := by
  unfold Memory.write
  split
  · exact Memory.read_erase_other m h
  · exact Memory.read_insert_other m b h

theorem Memory.mem_insert {m : Memory} {a : Nat} {b : Byte} {c : Host.Cell}
    (h : c ∈ Memory.insert m a b) : c = (a, b) ∨ c ∈ m := by
  induction m with
  | nil => simpa [Memory.insert] using h
  | cons d m ih =>
    simp only [Memory.insert] at h
    split at h
    · simpa using h
    · split at h
      · rcases List.mem_cons.1 h with h | h
        · exact .inl h
        · exact .inr (by simp [h])
      · rcases List.mem_cons.1 h with h | h
        · exact .inr (by simp [h])
        · rcases ih h with h | h
          · exact .inl h
          · exact .inr (by simp [h])

theorem Memory.mem_erase {m : Memory} {a : Nat} {c : Host.Cell} (h : c ∈ Memory.erase m a) : c ∈ m := by
  induction m with
  | nil => exact h
  | cons d m ih =>
    simp only [Memory.erase] at h
    split at h
    · simp [h]
    · rcases List.mem_cons.1 h with h | h
      · simp [h]
      · simp [ih h]

theorem Memory.pairwise_insert {m : Memory} (a : Nat) (b : Byte) (h : m.Pairwise (fun x y => x.1 < y.1)) :
    (Memory.insert m a b).Pairwise (fun x y => x.1 < y.1) := by
  induction m with
  | nil => simp [Memory.insert]
  | cons c m ih =>
    have h' := List.pairwise_cons.1 h
    simp only [Memory.insert]
    split
    · rename_i hlt
      refine List.pairwise_cons.2 ⟨fun x hx => ?_, h⟩
      rcases List.mem_cons.1 hx with rfl | hx
      · exact hlt
      · exact Nat.lt_trans hlt (h'.1 x hx)
    · split
      · rename_i he
        exact List.pairwise_cons.2 ⟨fun x hx => by have := h'.1 x hx; simp only; omega, h'.2⟩
      · refine List.pairwise_cons.2 ⟨fun x hx => ?_, ih h'.2⟩
        rcases Memory.mem_insert hx with rfl | hx
        · simp only; omega
        · exact h'.1 x hx

theorem Memory.pairwise_erase {m : Memory} (a : Nat) (h : m.Pairwise (fun x y => x.1 < y.1)) :
    (Memory.erase m a).Pairwise (fun x y => x.1 < y.1) := by
  induction m with
  | nil => exact h
  | cons c m ih =>
    have h' := List.pairwise_cons.1 h
    simp only [Memory.erase]
    split
    · exact h'.2
    · exact List.pairwise_cons.2 ⟨fun x hx => h'.1 x (Memory.mem_erase hx), ih h'.2⟩

/-- A write keeps the canonical form. -/
theorem Memory.wf_write {m : Memory} (a : Nat) (b : Byte) (h : Memory.wf m) :
    Memory.wf (Memory.write m a b) := by
  unfold Memory.write
  split
  · exact ⟨Memory.pairwise_erase a h.1, fun c hc => h.2 c (Memory.mem_erase hc)⟩
  · rename_i hb
    refine ⟨Memory.pairwise_insert a b h.1, fun c hc => ?_⟩
    rcases Memory.mem_insert hc with rfl | hc
    · exact hb
    · exact h.2 c hc

/-- A write below a bound keeps every listed index below it. -/
theorem Memory.bound_write {m : Memory} {n a : Nat} (b : Byte) (h : ∀ c ∈ m, c.1 < n) (ha : a < n) :
    ∀ c ∈ Memory.write m a b, c.1 < n := by
  intro c hc
  unfold Memory.write at hc
  split at hc
  · exact h c (Memory.mem_erase hc)
  · rcases Memory.mem_insert hc with rfl | hc
    · exact ha
    · exact h c hc

/-! ## The queues -/

section
variable {α : Type} (depth : Nat) (q : Queue α) (x : α)

/-- A push never changes the latch or VALID. -/
@[simp] theorem Queue.push_latch : (q.push depth x).latch = q.latch := by
  unfold Queue.push; split <;> rfl

@[simp] theorem Queue.push_valid : (q.push depth x).valid = q.valid := by
  unfold Queue.push; split <;> rfl

theorem Queue.push_entries :
    (q.push depth x).entries =
      (if q.entries.length = depth then q.entries.tail else q.entries) ++ [x] := by
  unfold Queue.push; split <;> rfl

theorem Queue.push_ovf :
    (q.push depth x).ovf = if q.entries.length = depth then satInc q.ovf else q.ovf := by
  unfold Queue.push; split <;> rfl

theorem Queue.push_length_le (hd : 1 ≤ depth) (h : q.entries.length ≤ depth) :
    (q.push depth x).entries.length ≤ depth := by
  rw [Queue.push_entries]
  split <;> simp <;> omega

theorem Queue.pop_cons {rest : List α} (h : q.entries = x :: rest) :
    q.pop = { q with entries := rest, latch := x, valid := true } := by
  unfold Queue.pop; rw [h]

theorem Queue.pop_nil (h : q.entries = []) : q.pop = { q with valid := false } := by
  unfold Queue.pop; rw [h]

theorem Queue.pop_entries : q.pop.entries = q.entries.tail := by
  unfold Queue.pop; split <;> rename_i h <;> simp [h]

@[simp] theorem Queue.pop_ovf : q.pop.ovf = q.ovf := by
  unfold Queue.pop; split <;> rfl

theorem Queue.pop_valid : q.pop.valid = decide (0 < q.entries.length) := by
  unfold Queue.pop; split <;> rename_i h <;> simp [h]

theorem Queue.pop_length_le (h : q.entries.length ≤ depth) : q.pop.entries.length ≤ depth := by
  rw [Queue.pop_entries, List.length_tail]; omega

@[simp] theorem Queue.clearOvf_entries : q.clearOvf.entries = q.entries := rfl
@[simp] theorem Queue.clearOvf_latch : q.clearOvf.latch = q.latch := rfl
@[simp] theorem Queue.clearOvf_valid : q.clearOvf.valid = q.valid := rfl
@[simp] theorem Queue.clearOvf_ovf : q.clearOvf.ovf = 0 := rfl

end

/-! ## Bus addresses -/

/-- The window holds exactly the addresses BASE to BASE + 4095, each naming its own offset. -/
theorem busOffset_busAddress (p : Config.Params) (off : Offset) :
    busOffset p (busAddress p off) = some off := by
  have := off.isLt
  simp [busOffset, busAddress, Config.windowBytes]
  omega

/-! ## Requests -/

theorem takeRequest_nil {s : State} (h : s.pending = []) : takeRequest s = none := by
  simp [takeRequest, h]

theorem takeRequest_cons {s : State} {r : Request} {rest : List Request} (h : s.pending = r :: rest) :
    takeRequest s = some (r, s.setPending rest) := by
  simp [takeRequest, h]

/-- Recording a fault touches the fault record alone. -/
theorem recordFault_cases (a : Agent) (s : State) :
    (∃ k, s.response = .error k ∧ recordFault a s = s.setFaults (s.faults ++ [(a, k)])) ∨
      ((∀ k, s.response ≠ .error k) ∧ recordFault a s = s) := by
  unfold recordFault
  cases h : s.response <;> simp

end Sys2Proof.Machine
end

