-- ==== Sys2Proof/Laws/Counter.lean ====
section
/-! SUPPORT. What the counter's procedures do: their fields, the cases of a close and of an edge, what they
leave alone, and that each keeps the counter's invariants. -/

namespace Sys2Proof.Machine

/-! ## Fields -/

section
variable (c : Counter) (t : Stamp)

@[simp] theorem Counter.clearWindow_windowOpen : c.clearWindow.windowOpen = false := rfl
@[simp] theorem Counter.clearWindow_syncForced : c.clearWindow.syncForced = false := rfl
@[simp] theorem Counter.clearWindow_edgeSeen : c.clearWindow.edgeSeen = false := rfl
@[simp] theorem Counter.clearWindow_pulses : c.clearWindow.pulses = 0 := rfl
@[simp] theorem Counter.clearWindow_raw : c.clearWindow.raw = 0 := rfl
@[simp] theorem Counter.clearWindow_glitch : c.clearWindow.glitch = 0 := rfl
@[simp] theorem Counter.clearWindow_startUs : c.clearWindow.startUs = 0 := rfl
@[simp] theorem Counter.clearWindow_endUs : c.clearWindow.endUs = 0 := rfl
@[simp] theorem Counter.clearWindow_armed : c.clearWindow.armed = c.armed := rfl
@[simp] theorem Counter.clearWindow_mode : c.clearWindow.mode = c.mode := rfl
@[simp] theorem Counter.clearWindow_windowMs : c.clearWindow.windowMs = c.windowMs := rfl
@[simp] theorem Counter.clearWindow_target : c.clearWindow.target = c.target := rfl
@[simp] theorem Counter.clearWindow_minInterval : c.clearWindow.minInterval = c.minInterval := rfl
@[simp] theorem Counter.clearWindow_estX1e4 : c.clearWindow.estX1e4 = c.estX1e4 := rfl
@[simp] theorem Counter.clearWindow_alarmPending : c.clearWindow.alarmPending = c.alarmPending := rfl
@[simp] theorem Counter.clearWindow_alarmUs : c.clearWindow.alarmUs = c.alarmUs := rfl
@[simp] theorem Counter.clearWindow_sigLevel : c.clearWindow.sigLevel = c.sigLevel := rfl
@[simp] theorem Counter.clearWindow_syncLevel : c.clearWindow.syncLevel = c.syncLevel := rfl

/-- Scheduling the alarm writes the alarm alone: pending exactly in GATED mode. -/
theorem Counter.scheduleAlarm_eq :
    c.scheduleAlarm t =
      { c with alarmPending := decide (c.mode = .gated),
               alarmUs := if c.mode = .gated then alarmDeadline t c.windowMs else c.alarmUs } := by
  unfold Counter.scheduleAlarm
  cases h : c.mode <;> simp

/-- Arming, every field at once (R161). -/
theorem Counter.arm_eq (cfg : CounterConfig) :
    c.arm cfg t =
      { c.clearWindow with
        mode := cfg.mode, windowMs := effectiveWindow cfg.windowMs,
        target := targetOf c.estX1e4 (effectiveWindow cfg.windowMs), armed := true,
        alarmPending := decide (cfg.mode = .gated),
        alarmUs := if cfg.mode = .gated then alarmDeadline t (effectiveWindow cfg.windowMs)
                   else c.alarmUs } := by
  simp [Counter.arm, Counter.scheduleAlarm_eq]

/-- A discard, every field at once (R180). -/
theorem Counter.discard_eq :
    c.discard t =
      { c.clearWindow with
        target := targetOf c.estX1e4 c.windowMs,
        alarmPending := decide (c.mode = .gated) || c.alarmPending,
        alarmUs := if c.mode = .gated then alarmDeadline t c.windowMs else c.alarmUs } := by
  unfold Counter.discard
  cases h : c.mode <;> simp [h]

end

/-- The target is never below the RECIP floor (R165). -/
theorem targetOf_ge (est : Word) (w : Half) : Config.recipMinEdges ≤ (targetOf est w).toNat := by
  rw [targetOf, sat32_toNat, Config.recipMinEdges]; omega

/-- A window length in use is at least 1 ms (R161). -/
theorem effectiveWindow_pos (w : Half) : 1 ≤ (effectiveWindow w).toNat := by
  unfold effectiveWindow
  split
  · decide
  · rename_i h
    have : w.toNat ≠ 0 := fun h0 => h (BitVec.eq_of_toNat_eq (by simpa using h0))
    omega

/-! ## Cases -/

/-- A close either discards, leaving everything but the counter alone, or emits a window that has pulses and
elapsed time (R179). -/
theorem closeWindow_cases (cause : Cause) (t : Stamp) (s : State) :
    (closeWindow cause t s = s.setCnt ({ s.cnt with alarmPending := false }.discard t) ∧
      (s.cnt.windowOpen = false ∨ s.cnt.pulses = 0 ∨ s.cnt.elapsed = 0)) ∨
    (closeWindow cause t s = emitResult cause (s.setCnt { s.cnt with alarmPending := false }) ∧
      s.cnt.windowOpen = true ∧ s.cnt.pulses ≠ 0 ∧ s.cnt.elapsed ≠ 0) := by
  unfold closeWindow
  have he : ({ s.cnt with alarmPending := false } : Counter).elapsed = s.cnt.elapsed := rfl
  by_cases h : ({ s.cnt with alarmPending := false } : Counter).nothingToEmit = true
  · simp only [h, if_true]
    simp only [Counter.nothingToEmit, he, Bool.or_eq_true, Bool.not_eq_true', beq_iff_eq] at h
    exact .inl ⟨trivial, by tauto⟩
  · simp only [h]
    simp only [Counter.nothingToEmit, he, Bool.or_eq_true, Bool.not_eq_true', beq_iff_eq, not_or] at h
    exact .inr ⟨rfl, by simpa using h.1.1, h.1.2, h.2⟩

/-- The fields of the state a close and an edge never touch. -/
structure SameButCounter (s t : State) : Prop where
  params : t.params = s.params
  pending : t.pending = s.pending
  response : t.response = s.response
  faults : t.faults = s.faults
  cntCfg : t.cntCfg = s.cntCfg
  swCfg : t.swCfg = s.swCfg
  sw : t.sw = s.sw
  crc : t.crc = s.crc
  fq : t.fq = s.fq
  nowUs : t.nowUs = s.nowUs
  intEn : t.intEn = s.intEn
  latch : t.rq.latch = s.rq.latch
  valid : t.rq.valid = s.rq.valid

theorem SameButCounter.refl (s : State) : SameButCounter s s := by constructor <;> rfl

theorem SameButCounter.setCnt (s : State) (c : Counter) : SameButCounter s (s.setCnt c) := by
  constructor <;> rfl

theorem SameButCounter.trans {s t u : State} (h : SameButCounter s t) (k : SameButCounter t u) :
    SameButCounter s u := by
  obtain ⟨a1, a2, a3, a4, a5, a6, a7, a8, a9, a10, a11, a12, a13⟩ := h
  obtain ⟨b1, b2, b3, b4, b5, b6, b7, b8, b9, b10, b11, b12, b13⟩ := k
  exact ⟨b1.trans a1, b2.trans a2, b3.trans a3, b4.trans a4, b5.trans a5, b6.trans a6, b7.trans a7,
    b8.trans a8, b9.trans a9, b10.trans a10, b11.trans a11, b12.trans a12, b13.trans a13⟩

theorem emitResult_same (cause : Cause) (s : State) : SameButCounter s (emitResult cause s) := by
  constructor <;> simp [emitResult, pushResult]

theorem closeWindow_same (cause : Cause) (t : Stamp) (s : State) :
    SameButCounter s (closeWindow cause t s) := by
  rcases closeWindow_cases cause t s with ⟨h, -⟩ | ⟨h, -⟩ <;> rw [h]
  · exact .setCnt _ _
  · exact (SameButCounter.setCnt _ _).trans (emitResult_same _ _)

/-- An edge is ignored, opens the window, is a glitch, or qualifies (R171 to R174). -/
theorem onEdge_cases (t : Stamp) (s : State) :
    (s.cnt.armed = false ∧ onEdge t s = s) ∨
    (s.cnt.armed = true ∧ s.cnt.windowOpen = false ∧
      onEdge t s = s.setCnt ({ s.cnt with raw := satInc s.cnt.raw }.referenceEdge t)) ∨
    (s.cnt.armed = true ∧ s.cnt.windowOpen = true ∧ s.cnt.isGlitch t = true ∧
      onEdge t s = s.setCnt { s.cnt with raw := satInc s.cnt.raw, glitch := satInc s.cnt.glitch }) ∨
    (s.cnt.armed = true ∧ s.cnt.windowOpen = true ∧ s.cnt.isGlitch t = false ∧
      onEdge t s = qualifyingEdge t (s.setCnt { s.cnt with raw := satInc s.cnt.raw })) := by
  have hg : ∀ w, ({ s.cnt with raw := w } : Counter).isGlitch t = s.cnt.isGlitch t := fun _ => rfl
  unfold onEdge
  cases ha : s.cnt.armed <;> cases ho : s.cnt.windowOpen <;> cases hgl : s.cnt.isGlitch t <;>
    simp_all

/-- A qualifying edge counts, and closes a RECIP window whose target is reached (R174). -/
theorem qualifyingEdge_cases (t : Stamp) (s : State) :
    (s.cnt.mode = .recip ∧ s.cnt.target.toNat ≤ (satInc s.cnt.pulses).toNat ∧
      qualifyingEdge t s = closeWindow .target t (s.setCnt (s.cnt.countPulse t))) ∨
    (¬ (s.cnt.mode = .recip ∧ s.cnt.target.toNat ≤ (satInc s.cnt.pulses).toNat) ∧
      qualifyingEdge t s = s.setCnt (s.cnt.countPulse t)) := by
  unfold qualifyingEdge
  by_cases h : s.cnt.mode = .recip ∧ s.cnt.target.toNat ≤ (satInc s.cnt.pulses).toNat
  · exact .inl ⟨h.1, h.2, by simp [Counter.countPulse, h]⟩
  · exact .inr ⟨h, by simp [Counter.countPulse, h]⟩

theorem qualifyingEdge_same (t : Stamp) (s : State) : SameButCounter s (qualifyingEdge t s) := by
  rcases qualifyingEdge_cases t s with ⟨-, -, h⟩ | ⟨-, h⟩ <;> rw [h]
  · exact (SameButCounter.setCnt _ _).trans (closeWindow_same _ _ _)
  · exact .setCnt _ _

theorem onEdge_same (t : Stamp) (s : State) : SameButCounter s (onEdge t s) := by
  rcases onEdge_cases t s with ⟨-, h⟩ | ⟨-, -, h⟩ | ⟨-, -, -, h⟩ | ⟨-, -, -, h⟩ <;> rw [h]
  · exact .refl s
  · exact .setCnt _ _
  · exact .setCnt _ _
  · exact (SameButCounter.setCnt _ _).trans (qualifyingEdge_same _ _)

/-- The alarm fires exactly when armed, pending and due (R178). -/
theorem alarmCheck_cases (s : State) :
    (s.cnt.armed = true ∧ s.cnt.alarmPending = true ∧ s.cnt.alarmUs.toNat ≤ s.nowUs.toNat ∧
      alarmCheck s = closeWindow .alarm s.nowUs s) ∨
    (¬ (s.cnt.armed = true ∧ s.cnt.alarmPending = true ∧ s.cnt.alarmUs.toNat ≤ s.nowUs.toNat) ∧
      alarmCheck s = s) := by
  unfold alarmCheck
  by_cases h : s.cnt.armed = true ∧ s.cnt.alarmPending = true ∧ s.cnt.alarmUs.toNat ≤ s.nowUs.toNat
  · exact .inl ⟨h.1, h.2.1, h.2.2, by simp [h]⟩
  · exact .inr ⟨h, by rw [if_neg h]⟩

theorem alarmCheck_same (s : State) : SameButCounter s (alarmCheck s) := by
  rcases alarmCheck_cases s with ⟨-, -, -, h⟩ | ⟨-, h⟩ <;> rw [h]
  · exact closeWindow_same _ _ _
  · exact .refl s

/-! ## The result queue stays bounded -/

theorem closeWindow_rq_le (cause : Cause) (t : Stamp) (s : State) (hd : 1 ≤ s.params.rqDepth)
    (h : s.rq.entries.length ≤ s.params.rqDepth) :
    (closeWindow cause t s).rq.entries.length ≤ s.params.rqDepth := by
  rcases closeWindow_cases cause t s with ⟨he, -⟩ | ⟨he, -⟩ <;> rw [he]
  · exact h
  · exact Queue.push_length_le _ _ _ hd h

/-! ## The counter's invariants -/

theorem Counter.arm_inv (cfg : CounterConfig) (t now : Stamp) (c : Counter) :
    (c.arm cfg t).Inv now := by
  rw [Counter.arm_eq]
  refine ⟨?_, ?_, ?_, ⟨targetOf_ge _ _, ?_⟩, ?_⟩ <;> simp [Counter.WindowOrdered, Counter.ClosedIsClear, Counter.AlarmOnlyGated, Counter.UnseenIsForced]

theorem Counter.syncRestart_inv (cfg : CounterConfig) (t : Stamp) (c : Counter) :
    (c.syncRestart cfg t).Inv t := by
  have hpos : 0 < (targetOf c.estX1e4 (effectiveWindow cfg.windowMs)).toNat := by
    have := targetOf_ge c.estX1e4 (effectiveWindow cfg.windowMs)
    rw [Config.recipMinEdges] at this; omega
  rw [Counter.syncRestart, Counter.arm_eq]
  refine ⟨?_, ?_, ?_, ⟨targetOf_ge _ _, ?_⟩, ?_⟩ <;>
    simp [Counter.WindowOrdered, Counter.ClosedIsClear, Counter.AlarmOnlyGated, Counter.UnseenIsForced, hpos]

theorem Counter.discard_inv (t now : Stamp) (c : Counter) (ha : c.armed = true)
    (hp : c.alarmPending = false) : (c.discard t).Inv now := by
  rw [Counter.discard_eq]
  refine ⟨?_, ?_, ?_, ⟨targetOf_ge _ _, ?_⟩, ?_⟩ <;>
    simp [Counter.WindowOrdered, Counter.ClosedIsClear, Counter.AlarmOnlyGated, Counter.UnseenIsForced, ha, hp]

theorem Counter.afterEmit_inv (cfg : CounterConfig) (f : Word) (now : Stamp) (c : Counter)
    (ht : Config.recipMinEdges ≤ c.target.toNat) : (c.afterEmit cfg f).Inv now := by
  refine ⟨?_, ?_, ?_, ⟨ht, ?_⟩, ?_⟩ <;>
    simp [Counter.WindowOrdered, Counter.ClosedIsClear, Counter.AlarmOnlyGated, Counter.UnseenIsForced, Counter.afterEmit]

/-- A close of an armed counter keeps the invariants, whatever the window held. -/
theorem closeWindow_inv (cause : Cause) (t now : Stamp) (s : State) (ha : s.cnt.armed = true)
    (ht : Config.recipMinEdges ≤ s.cnt.target.toNat) : (closeWindow cause t s).cnt.Inv now := by
  rcases closeWindow_cases cause t s with ⟨h, -⟩ | ⟨h, -⟩ <;> rw [h]
  · exact Counter.discard_inv _ _ _ ha rfl
  · exact Counter.afterEmit_inv _ _ _ _ ht

theorem Counter.referenceEdge_inv (now : Stamp) (c : Counter) (w : Word) (h : c.Inv now)
    (ha : c.armed = true) (ho : c.windowOpen = false) :
    ({ c with raw := w }.referenceEdge now).Inv now := by
  obtain ⟨-, h2, h3, ⟨h4, -⟩, -⟩ := h
  have hp := (h2 ho).1
  have : 0 < c.target.toNat := by rw [Config.recipMinEdges] at h4; omega
  refine ⟨?_, ?_, h3, ⟨h4, ?_⟩, ?_⟩ <;>
    simp [Counter.WindowOrdered, Counter.ClosedIsClear, Counter.UnseenIsForced, Counter.referenceEdge, ha, hp, this]

theorem qualifyingEdge_inv (s : State) (h : s.cnt.Inv s.nowUs) (ho : s.cnt.windowOpen = true) :
    (qualifyingEdge s.nowUs s).cnt.Inv s.nowUs := by
  obtain ⟨h1, -, h3, ⟨h4, -⟩, -⟩ := h
  obtain ⟨ha, hse, hen⟩ := h1 ho
  rcases qualifyingEdge_cases s.nowUs s with ⟨-, -, hq⟩ | ⟨hn, hq⟩ <;> rw [hq]
  · exact closeWindow_inv _ _ _ _ ha h4
  · refine ⟨?_, ?_, h3, ⟨h4, ?_⟩, ?_⟩ <;>
    simp [Counter.WindowOrdered, Counter.ClosedIsClear, Counter.UnseenIsForced, Counter.countPulse, ho, ha]
    · omega
    · intro hm; by_contra hc; exact hn ⟨hm, by omega⟩

theorem onEdge_inv (s : State) (h : s.cnt.Inv s.nowUs) : (onEdge s.nowUs s).cnt.Inv s.nowUs := by
  rcases onEdge_cases s.nowUs s with ⟨-, he⟩ | ⟨ha, ho, he⟩ | ⟨-, ho, -, he⟩ | ⟨-, ho, -, he⟩ <;> rw [he]
  · exact h
  · exact Counter.referenceEdge_inv _ _ _ h ha ho
  · obtain ⟨h1, -, h3, h4, h5⟩ := h
    exact ⟨h1, by simp [ho], h3, h4, h5⟩
  · exact qualifyingEdge_inv (s.setCnt { s.cnt with raw := satInc s.cnt.raw }) h ho

end Sys2Proof.Machine
end

