-- ==== Sys2Proof/Laws/Decode.lean ====
section
/-! SUPPORT. The fields of a descriptor the encoder builds, a descriptor rebuilt from its fields, and which
words the fixed register map holds. -/

namespace Sys2Proof

section
variable (cls size low : BitVec 2) (off : Offset) (w z : BitVec 10) (j : BitVec 8) (ev : BitVec 4)

/-! ## Fields of what the encoder builds -/

@[simp] theorem descClass_busWord : descClass (busWord cls size off) = cls := by
  apply BitVec.eq_of_getLsbD_eq; intro i hi
  simp only [descClass, busWord, BitVec.getLsbD_extractLsb', BitVec.getLsbD_append]
  interval_cases i <;> simp

@[simp] theorem descSize_busWord : descSize (busWord cls size off) = size := by
  apply BitVec.eq_of_getLsbD_eq; intro i hi
  simp only [descSize, busWord, BitVec.getLsbD_extractLsb', BitVec.getLsbD_append]
  interval_cases i <;> simp

@[simp] theorem descOff_busWord : descOff (busWord cls size off) = off := by
  apply BitVec.eq_of_getLsbD_eq; intro i hi
  simp only [descOff, busWord, BitVec.getLsbD_extractLsb', BitVec.getLsbD_append]
  interval_cases i <;> simp

@[simp] theorem low_busWord :
    (busWord cls size off).extractLsb' 0 2 = off.extractLsb' 0 2 := by
  apply BitVec.eq_of_getLsbD_eq; intro i hi
  simp only [busWord, BitVec.getLsbD_extractLsb', BitVec.getLsbD_append]
  interval_cases i <;> simp

@[simp] theorem descClass_evtWord : descClass (evtWord z ev) = 0b10#2 := by
  apply BitVec.eq_of_getLsbD_eq; intro i hi
  simp only [descClass, evtWord, BitVec.getLsbD_extractLsb', BitVec.getLsbD_append]
  interval_cases i <;> simp

@[simp] theorem descZ_evtWord : descZ (evtWord z ev) = z := by
  apply BitVec.eq_of_getLsbD_eq; intro i hi
  simp only [descZ, evtWord, BitVec.getLsbD_extractLsb', BitVec.getLsbD_append]
  interval_cases i <;> simp

@[simp] theorem descEv_evtWord : descEv (evtWord z ev) = ev := by
  apply BitVec.eq_of_getLsbD_eq; intro i hi
  simp only [descEv, evtWord, BitVec.getLsbD_extractLsb', BitVec.getLsbD_append]
  interval_cases i <;> simp

/-- Bit `n` of Z is bit `n + 4` of the descriptor. -/
theorem getLsbD_evtWord (n : Nat) (h : n < 10) : (evtWord z ev).getLsbD (n + 4) = z.getLsbD n := by
  simp only [evtWord, BitVec.getLsbD_append]
  interval_cases n <;> simp

/-- A field of Z is the field of the descriptor 4 bits higher. -/
theorem extractLsb'_evtWord (n k : Nat) (h : n + k ≤ 10) :
    (evtWord z ev).extractLsb' (n + 4) k = z.extractLsb' n k := by
  apply BitVec.eq_of_getLsbD_eq; intro i hi
  simp only [BitVec.getLsbD_extractLsb', hi, decide_true, Bool.true_and]
  rw [show n + 4 + i = (n + i) + 4 by omega, getLsbD_evtWord _ _ _ (by omega)]

@[simp] theorem offWord_mkOff : offWord (mkOff w low) = w := by
  apply BitVec.eq_of_getLsbD_eq; intro i hi
  simp only [offWord, mkOff, BitVec.getLsbD_extractLsb', BitVec.getLsbD_append]
  interval_cases i <;> simp

@[simp] theorem low_mkOff : (mkOff w low).extractLsb' 0 2 = low := by
  apply BitVec.eq_of_getLsbD_eq; intro i hi
  simp only [mkOff, BitVec.getLsbD_extractLsb', BitVec.getLsbD_append]
  interval_cases i <;> simp

@[simp] theorem offIndex_swBufOff : offIndex (swBufOff j) = j := by
  apply BitVec.eq_of_getLsbD_eq; intro i hi
  simp only [offIndex, swBufOff, BitVec.getLsbD_extractLsb', BitVec.getLsbD_append]
  interval_cases i <;> simp

@[simp] theorem low_swBufOff : (swBufOff j).extractLsb' 0 2 = 0#2 := by
  apply BitVec.eq_of_getLsbD_eq; intro i hi
  simp only [swBufOff, BitVec.getLsbD_extractLsb', BitVec.getLsbD_append]
  interval_cases i <;> simp

/-- The word of a SW_BUF offset is 0x100 plus its index. -/
theorem offWord_swBufOff : (offWord (swBufOff j)).toNat = 0x100 + j.toNat := by
  revert j; decide

/-! ## A descriptor from its fields -/

/-- A descriptor is its class, size and offset. -/
theorem eq_busWord (d : Descriptor) : busWord (descClass d) (descSize d) (descOff d) = d := by
  apply BitVec.eq_of_getLsbD_eq; intro i hi
  simp only [descClass, descSize, descOff, busWord, BitVec.getLsbD_extractLsb', BitVec.getLsbD_append]
  interval_cases i <;> simp

/-- An offset is its word and its low two bits. -/
theorem eq_mkOff : mkOff (offWord off) (off.extractLsb' 0 2) = off := by
  apply BitVec.eq_of_getLsbD_eq; intro i hi
  simp only [offWord, mkOff, BitVec.getLsbD_extractLsb', BitVec.getLsbD_append]
  interval_cases i <;> simp

/-- The number of an aligned offset is four times its word. -/
theorem toNat_mkOff_zero : (mkOff w 0#2).toNat = 4 * w.toNat := by
  rw [mkOff, BitVec.toNat_append]
  simp only [BitVec.toNat_ofNat, Nat.zero_mod, Nat.or_zero]
  rw [Nat.shiftLeft_eq]
  omega

end

/-! ## The fixed registers -/

/-- The read table holds exactly the fixed registers of the map. -/
theorem fixedRead_isSome (w : BitVec 10) : (fixedRead (4 * w.toNat)).isSome = isFixedRegister w := by
  revert w; decide +kernel

/-- The write table holds exactly the offsets of the read table. -/
theorem fixedWrite_isSome (n : Nat) (v : Word) : (fixedWrite n v).isSome = (fixedRead n).isSome := by
  unfold fixedWrite fixedRead
  split <;> rfl

end Sys2Proof
end

