-- ==== Sys2Proof/Laws/Engine.lean ====
section
/-! SUPPORT. What the single-wire engine's procedures do: the cases of a tick and of a start, and that each
keeps the engine's invariant. -/

namespace Sys2Proof.Machine

/-! ## Fields -/

section
variable (e : Engine)

/-- Ending a transaction, every field at once (R239). -/
theorem Engine.finish_eq (res : SwResult) (dev : Byte) (len : Half) :
    e.finish res dev len =
      { e with oe := false, busy := false, done := true, sp := .idle, wait := 0, result := res,
               dev := dev, len := len,
               lastValid := if res = .ok ∧ 0 < len.toNat then true else e.lastValid,
               lastDev := if res = .ok ∧ 0 < len.toNat then dev else e.lastDev,
               lastLen := if res = .ok ∧ 0 < len.toNat then len else e.lastLen } := by
  unfold Engine.finish Engine.release
  by_cases h : res = .ok ∧ 0 < len.toNat
  · simp only [h, and_self, if_true]
  · simp only [h, if_false]

/-- `txbit(x)` begins by driving the complement of `x` (R233). -/
theorem Engine.beginTxBit_eq (x : Bool) :
    e.beginTxBit x = { e with bit := x, oe := true, out := !x, sp := .wTx1, wait := e.half } := rfl

theorem Engine.beginRxBit_eq : e.beginRxBit = { e with oe := false, sp := .wRx1, wait := e.quarter } := rfl

theorem Engine.beginAttempt_eq (p : Config.Params) :
    e.beginAttempt p =
      { e with phase := .stby, oe := true, out := true, sp := .wStby, wait := p.tStby } := rfl

@[simp] theorem Engine.half_toNat : e.half.toNat = e.h.toNat := by
  have := e.h.isLt
  simp only [Engine.half, BitVec.toNat_setWidth]; omega

@[simp] theorem Engine.quarter_toNat : e.quarter.toNat = e.h.toNat / 2 := by
  simp [Engine.quarter]

theorem Engine.rest_toNat : (e.half - e.quarter).toNat = e.h.toNat - e.h.toNat / 2 := by
  have := e.h.isLt
  rw [BitVec.toNat_sub_of_le (by rw [BitVec.le_def]; simp; omega)]
  simp

end

/-- `half_us` lies within its clamp (R232). -/
theorem halfUs_range (b : Word) :
    Config.halfMinUs ≤ (halfUs b).toNat ∧ (halfUs b).toNat ≤ Config.halfMaxUs := by
  have h : max Config.halfMinUs (min (500000 / b.toNat) Config.halfMaxUs) ≤ 200 := by
    simp [Config.halfMinUs, Config.halfMaxUs]
  have h' : Config.halfMinUs ≤ max Config.halfMinUs (min (500000 / b.toNat) Config.halfMaxUs) :=
    Nat.le_max_left _ _
  unfold halfUs
  split
  · decide
  · rw [BitVec.toNat_ofNat, Nat.mod_eq_of_lt (by omega)]
    exact ⟨h', h⟩

/-- The half-bit period in exact integers (R232). -/
theorem halfUs_toNat (b : Word) :
    (halfUs b).toNat = if b.toNat = 0 then 200 else max 5 (min (500000 / b.toNat) 200) := by
  unfold halfUs
  split
  · rfl
  · rw [BitVec.toNat_ofNat, Config.halfMinUs, Config.halfMaxUs]; omega

/-! ## The invariant -/

/-- What a running transaction keeps whatever its sequencer point: the latched values within their bounds
and a well-formed buffer within BUF_CAP. -/
structure Engine.Latched (p : Config.Params) (e : Engine) : Prop where
  busy : e.busy = true
  period : Config.halfMinUs ≤ e.h.toNat ∧ e.h.toNat ≤ Config.halfMaxUs
  length : 1 ≤ e.l.toNat ∧ e.l.toNat ≤ p.bufCap ∧ e.a.toNat + e.l.toNat ≤ Config.eeSize
  device : Config.probeFirst.toNat ≤ e.d.toNat ∧ e.d.toNat ≤ p.probeLast.toNat ∧ e.d.toNat % 2 = 0
  wf : Memory.wf e.buf
  bound : ∀ c ∈ e.buf, c.1 < p.bufCap

section
variable {p : Config.Params} {e : Engine}

theorem Engine.Inv.latched (h : e.Inv p) (hb : e.busy = true) : e.Latched p :=
  have r := h.2.2.1 hb
  ⟨hb, r.2.2.1, r.2.2.2.1, r.2.2.2.2.2, h.2.2.2.2.1, h.2.2.2.2.2⟩

theorem Engine.finish_inv (res : SwResult) (dev : Byte) (len : Half) (hw : Memory.wf e.buf)
    (hb : ∀ c ∈ e.buf, c.1 < p.bufCap) : (e.finish res dev len).Inv p := by
  rw [Engine.finish_eq]
  exact ⟨rfl, rfl, by simp, by simp, hw, hb⟩

theorem Engine.beginTxBit_inv (x : Bool) (h : e.Latched p) (hf : phaseFits .wTx1 e.phase = true)
    (hi : e.phase = .mak → e.i.toNat < e.l.toNat) : (e.beginTxBit x).Inv p := by
  have hp := h.period.1
  rw [Config.halfMinUs] at hp
  rw [Engine.beginTxBit_eq]
  refine ⟨hf, rfl, fun _ => ⟨by simp, ?_, h.period, h.length, fun hd => ?_, h.device⟩, by simp [h.busy],
    h.wf, h.bound⟩
  · simp only [Engine.half_toNat]; omega
  · rcases hd with hd | hd
    · simp only at hd; rw [hd] at hf; exact absurd hf (by decide)
    · exact hi hd

theorem Engine.beginRxBit_inv (h : e.Latched p) (hf : phaseFits .wRx1 e.phase = true)
    (hi : e.phase = .data → e.i.toNat < e.l.toNat) : e.beginRxBit.Inv p := by
  have hp := h.period.1
  rw [Config.halfMinUs] at hp
  rw [Engine.beginRxBit_eq]
  refine ⟨hf, rfl, fun _ => ⟨by simp, ?_, h.period, h.length, fun hd => ?_, h.device⟩, by simp [h.busy],
    h.wf, h.bound⟩
  · simp only [Engine.quarter_toNat]; omega
  · rcases hd with hd | hd
    · exact hi hd
    · simp only at hd; rw [hd] at hf; exact absurd hf (by decide)

theorem Engine.beginAttempt_inv (h : e.Latched p) (hp : p.Valid) : (e.beginAttempt p).Inv p := by
  rw [Engine.beginAttempt_eq]
  exact ⟨rfl, rfl, fun _ => ⟨by simp, hp.2.2.2.1.1, h.period, h.length, by simp, h.device⟩, by simp [h.busy],
    h.wf, h.bound⟩

theorem Engine.beginTxByte_inv (ph : Phase) (b : Byte) (h : e.Latched p)
    (hf : phaseFits .wTx1 ph = true) (hm : ph ≠ .mak) : (e.beginTxByte ph b).Inv p :=
  Engine.beginTxBit_inv _ ⟨h.busy, h.period, h.length, h.device, h.wf, h.bound⟩ hf (fun x => absurd x hm)

theorem Engine.beginSak_inv (ph : Phase) (h : e.Latched p) (hf : phaseFits .wRx1 ph = true)
    (hd : ph ≠ .data) : (e.beginSak ph).Inv p :=
  Engine.beginRxBit_inv ⟨h.busy, h.period, h.length, h.device, h.wf, h.bound⟩ hf (fun x => absurd x hd)

theorem Engine.beginRxByte_inv (i : Half) (h : e.Latched p) (hi : i.toNat < e.l.toNat) :
    (e.beginRxByte i).Inv p :=
  Engine.beginRxBit_inv ⟨h.busy, h.period, h.length, h.device, h.wf, h.bound⟩ rfl (fun _ => hi)

theorem Engine.nextAddress_inv (h : e.Latched p) (hp : p.Valid) : (e.nextAddress p).Inv p := by
  obtain ⟨h1, h2, h3⟩ := h.device
  have hl := hp.2.2.1.2.2
  unfold Engine.nextAddress
  rw [Config.probeStep]
  split
  · exact Engine.finish_inv _ _ _ h.wf h.bound
  · have hd : (BitVec.ofNat 8 (e.d.toNat + 2)).toNat = e.d.toNat + 2 := by
      rw [BitVec.toNat_ofNat, Nat.mod_eq_of_lt (by omega)]
    refine Engine.beginAttempt_inv ⟨h.busy, h.period, h.length, ?_, h.wf, h.bound⟩ hp
    simp only [hd]
    omega

theorem Engine.afterTxByte_inv (h : e.Latched p) (hf : phaseFits .wTx2 e.phase = true)
    (hm : e.phase ≠ .mak) : e.afterTxByte.Inv p := by
  unfold Engine.afterTxByte
  cases hph : e.phase <;> rw [hph] at hf hm <;> first | exact absurd hf (by decide) | skip
  · exact Engine.beginTxByte_inv _ _ h rfl (by decide)
  · exact Engine.beginSak_inv _ h rfl (by decide)
  · exact Engine.beginSak_inv _ h rfl (by decide)
  · exact Engine.beginSak_inv _ h rfl (by decide)
  · exact Engine.beginSak_inv _ h rfl (by decide)
  · exact absurd rfl hm

theorem Engine.afterSak_inv (h : e.Latched p)
    (hf : e.phase = .sak1 ∨ e.phase = .sak2 ∨ e.phase = .sak3 ∨ e.phase = .sak4) :
    (e.afterSak p).Inv p := by
  have hl := h.length.1
  unfold Engine.afterSak
  rcases hf with hf | hf | hf | hf <;> rw [hf] <;> simp only
  · exact Engine.beginTxByte_inv _ _ h rfl (by decide)
  · exact Engine.beginTxByte_inv _ _ h rfl (by decide)
  · exact Engine.beginTxByte_inv _ _ h rfl (by decide)
  · exact Engine.beginRxByte_inv _ h (by simp; omega)

theorem Engine.handshake_inv (a : RxBit) (h : e.Latched p) (hp : p.Valid)
    (hf : e.phase = .sak1 ∨ e.phase = .sak2 ∨ e.phase = .sak3 ∨ e.phase = .sak4) :
    (e.handshake p a).Inv p := by
  cases a
  · exact Engine.finish_inv _ _ _ h.wf h.bound
  · exact Engine.afterSak_inv h hf
  · exact Engine.nextAddress_inv h hp
  · exact Engine.finish_inv _ _ _ h.wf h.bound

theorem Engine.afterRxByte_inv (h : e.Latched p) (hi : e.i.toNat < e.l.toNat) : e.afterRxByte.Inv p := by
  have := h.length.2.1
  exact Engine.beginTxBit_inv _
    ⟨h.busy, h.period, h.length, h.device, Memory.wf_write _ _ h.wf,
      Memory.bound_write _ h.bound (by omega)⟩ rfl (fun _ => hi)

theorem Engine.storeBit_inv (b : Bool) (h : e.Latched p) (hph : e.phase = .data)
    (hi : e.i.toNat < e.l.toNat) : (e.storeBit b).Inv p := by
  have h' : ({ e with rx := setBit e.rx e.k b } : Engine).Latched p :=
    ⟨h.busy, h.period, h.length, h.device, h.wf, h.bound⟩
  unfold Engine.storeBit
  simp only
  split
  · exact Engine.afterRxByte_inv h' hi
  · exact Engine.beginRxBit_inv ⟨h'.busy, h'.period, h'.length, h'.device, h'.wf, h'.bound⟩
      (by simp only [hph]; rfl) (fun _ => hi)

theorem Engine.afterDataBit_inv (a : RxBit) (h : e.Latched p) (hph : e.phase = .data)
    (hi : e.i.toNat < e.l.toNat) : (e.afterDataBit a).Inv p := by
  cases a
  · exact Engine.storeBit_inv _ h hph hi
  · exact Engine.storeBit_inv _ h hph hi
  · exact Engine.finish_inv _ _ _ h.wf h.bound
  · exact Engine.finish_inv _ _ _ h.wf h.bound

theorem Engine.afterMak_inv (h : e.Latched p) : e.afterMak.Inv p := by
  unfold Engine.afterMak
  split
  · rename_i hlt
    have := e.l.isLt
    refine Engine.beginRxByte_inv _ h ?_
    show (e.i.toNat + 1) % 2 ^ 16 < e.l.toNat
    omega
  · exact Engine.finish_inv _ _ _ h.wf h.bound

theorem Engine.afterTxBit_inv (h : e.Latched p) (hf : phaseFits .wTx2 e.phase = true) :
    e.afterTxBit.Inv p := by
  have next : e.phase ≠ .mak →
      (if e.k = 0 then e.afterTxByte
       else ({ e with k := e.k - 1 }).beginTxBit (e.tx.getLsbD (e.k.toNat - 1))).Inv p := by
    intro hm
    split
    · exact Engine.afterTxByte_inv h hf hm
    · exact Engine.beginTxBit_inv _ ⟨h.busy, h.period, h.length, h.device, h.wf, h.bound⟩ hf
        (fun x => absurd x hm)
  unfold Engine.afterTxBit
  split <;> rename_i hph
  all_goals first
    | exact Engine.afterMak_inv h
    | exact next (by rw [hph]; decide)
    | (rw [hph] at hf; exact absurd hf (by decide))

theorem Engine.afterRxBit_inv (h : e.Latched p) (hp : p.Valid) (hf : phaseFits .wRx3 e.phase = true)
    (hi : e.phase = .data → e.i.toNat < e.l.toNat) : (e.afterRxBit p).Inv p := by
  unfold Engine.afterRxBit
  split <;> rename_i hph
  all_goals first
    | exact Engine.afterDataBit_inv _ h hph (hi hph)
    | exact Engine.handshake_inv _ h hp (by simp [hph])
    | (rw [hph] at hf; exact absurd hf (by decide))

/-- Resuming a process, whatever its wait count, gives a state of the invariant. -/
theorem Engine.resume_inv (g : e.Latched p) (hp : p.Valid) (hsp : e.sp ≠ .idle)
    (hf : phaseFits e.sp e.phase = true) (ho : e.oe = drivesAt e.sp)
    (hi : (e.phase = .data ∨ e.phase = .mak) → e.i.toNat < e.l.toNat) : (e.resume p).Inv p := by
  have hb := g.busy
  have hq := g.period.1
  rw [Config.halfMinUs] at hq
  unfold Engine.resume
  cases hs : e.sp <;> rw [hs] at hf hsp ho
  · exact absurd rfl hsp
  · exact ⟨rfl, rfl, fun _ => ⟨by simp [Engine.suspend], hp.2.2.2.1.2, g.period, g.length,
      by simp [Engine.suspend, Engine.drive], g.device⟩, by simp [Engine.suspend, Engine.drive, hb],
      g.wf, g.bound⟩
  · exact Engine.beginTxByte_inv _ _ g rfl (by decide)
  · exact ⟨hf, rfl, fun _ => ⟨by simp [Engine.suspend], by simp [Engine.suspend]; omega, g.period, g.length,
      hi, g.device⟩, by simp [Engine.suspend, Engine.drive, hb], g.wf, g.bound⟩
  · exact Engine.afterTxBit_inv g hf
  · exact ⟨hf, by simp [Engine.suspend, drivesAt, ho], fun _ => ⟨by simp [Engine.suspend],
      by simp [Engine.suspend]; omega, g.period, g.length, hi, g.device⟩, by simp [Engine.suspend, hb],
      g.wf, g.bound⟩
  · exact ⟨hf, by simp [Engine.suspend, drivesAt, ho], fun _ => ⟨by simp [Engine.suspend],
      by simp only [Engine.suspend, Engine.rest_toNat]; omega, g.period, g.length, hi, g.device⟩,
      by simp [Engine.suspend, hb], g.wf, g.bound⟩
  · exact Engine.afterRxBit_inv g hp hf (fun x => hi (.inl x))

/-! ## Ticks and starts -/

/-- A tick of an idle engine does nothing; of a busy one it counts the wait down, and resumes the process
when the wait expires (R240). -/
theorem Engine.tick_cases (p : Config.Params) (e : Engine) :
    (e.busy = false ∧ e.tick p = e) ∨
    (e.busy = true ∧ e.wait = 1 ∧ e.tick p = ({ e with wait := 0 }).resume p) ∨
    (e.busy = true ∧ e.wait ≠ 1 ∧ e.tick p = { e with wait := e.wait - 1 }) := by
  unfold Engine.tick
  by_cases hb : e.busy = true
  · by_cases hw : e.wait = 1
    · exact .inr (.inl ⟨hb, hw, by simp [hb, hw]⟩)
    · have : e.wait - 1 ≠ 0 := fun h0 => hw (by
        have h2 : e.wait - 1#32 = 0#32 := h0
        have := congrArg (· + 1#32) h2
        simpa using this)
      exact .inr (.inr ⟨hb, hw, by simp only [hb, if_true, if_neg this]⟩)
  · exact .inl ⟨by simpa using hb, by simp [hb]⟩

theorem Engine.tick_inv (h : e.Inv p) (hp : p.Valid) : (e.tick p).Inv p := by
  rcases Engine.tick_cases p e with ⟨-, ht⟩ | ⟨hb, -, ht⟩ | ⟨hb, hw, ht⟩ <;> rw [ht]
  · exact h
  · have g := h.latched hb
    have r := h.2.2.1 hb
    exact Engine.resume_inv ⟨g.busy, g.period, g.length, g.device, g.wf, g.bound⟩ hp r.1 h.1 h.2.1
      r.2.2.2.2.1
  · obtain ⟨a, b, c, -, f, g⟩ := h
    obtain ⟨c1, c2, c3⟩ := c hb
    refine ⟨a, b, fun _ => ⟨c1, ?_, c3⟩, by simp [hb], f, g⟩
    have : e.wait.toNat ≠ 1 := fun h1 => hw (BitVec.eq_of_toNat_eq (by simpa using h1))
    rw [BitVec.toNat_sub_of_le (by rw [BitVec.le_def]; simpa using c2)]
    have h32 : (1 : Word).toNat = 1 := rfl
    omega

/-- A START of an idle engine: RANGE, an empty read, or a transaction in its standby pulse (R236). -/
theorem Engine.startTransaction_cases (p : Config.Params) (cfg : EngineConfig) (e : Engine) :
    (Config.eeSize ≤ cfg.addr.toNat ∧
      e.startTransaction p cfg = ({ e with done := false }).finish .range 0 0) ∨
    (cfg.addr.toNat < Config.eeSize ∧ clampedLength p cfg = 0 ∧
      e.startTransaction p cfg = ({ e with done := false }).finish .ok 0 0) ∨
    (cfg.addr.toNat < Config.eeSize ∧ clampedLength p cfg ≠ 0 ∧
      e.startTransaction p cfg =
        ({ e with done := false, h := halfUs cfg.bitrate, a := cfg.addr,
                  l := BitVec.ofNat 16 (clampedLength p cfg), busy := true,
                  d := Config.probeFirst } : Engine).beginAttempt p) := by
  unfold Engine.startTransaction
  by_cases h1 : Config.eeSize ≤ cfg.addr.toNat
  · exact .inl ⟨h1, by simp [h1]⟩
  · by_cases h2 : clampedLength p cfg = 0
    · exact .inr (.inl ⟨by omega, h2, by simp [h1, h2]⟩)
    · exact .inr (.inr ⟨by omega, h2, by simp [h1, h2]⟩)

theorem Engine.startTransaction_inv (cfg : EngineConfig) (h : e.Inv p) (hp : p.Valid) :
    (e.startTransaction p cfg).Inv p := by
  rcases Engine.startTransaction_cases p cfg e with ⟨-, hs⟩ | ⟨-, -, hs⟩ | ⟨ha, hl, hs⟩ <;> rw [hs]
  · exact Engine.finish_inv _ _ _ h.2.2.2.2.1 h.2.2.2.2.2
  · exact Engine.finish_inv _ _ _ h.2.2.2.2.1 h.2.2.2.2.2
  · have hc := hp.2.1
    have hb : clampedLength p cfg ≤ p.bufCap ∧ clampedLength p cfg + cfg.addr.toNat ≤ Config.eeSize ∧
        clampedLength p cfg ≤ Config.eeSize := by
      unfold clampedLength; rw [Config.eeSize] at *; omega
    have hn : (BitVec.ofNat 16 (clampedLength p cfg)).toNat = clampedLength p cfg := by
      rw [Config.eeSize] at hb
      rw [BitVec.toNat_ofNat, Nat.mod_eq_of_lt (by omega)]
    refine Engine.beginAttempt_inv ⟨rfl, halfUs_range _, ?_, ?_, h.2.2.2.2.1, h.2.2.2.2.2⟩ hp
    · simp only [hn]; omega
    · have := hp.2.2.1
      exact ⟨Nat.le_refl _, this.2.1, show Config.probeFirst.toNat % 2 = 0 by decide⟩

end

end Sys2Proof.Machine
end

