-- ==== Sys2Proof/Laws/Frame.lean ====
section
/-! SUPPORT. The fields of the payload software builds from the result latch, as the registers show them. -/

namespace Sys2Proof.Machine

/-- The four status flags lie in bits 0 to 3, and bits 7:4 are 0 (R301). -/
theorem frameFlags_bits (a b c d : Bool) :
    (frameFlags a b c d).getLsbD 0 = a ∧ (frameFlags a b c d).getLsbD 1 = b ∧
      (frameFlags a b c d).getLsbD 2 = c ∧ (frameFlags a b c d).getLsbD 3 = d ∧
      (frameFlags a b c d).extractLsb' 4 4 = 0 := by
  revert a b c d; decide

/-- A frequency that fits the signed field is written as it is (R301). -/
theorem frameFreq_toInt {f : Word} (h : f.toNat < 2 ^ 31) : (frameFreq f).toInt = f.toNat := by
  rw [frameFreq, if_pos h, BitVec.toInt_eq_toNat_cond, if_pos (by omega)]

section
variable (x : FrameInputs) (s : State)

/-- `tau_ms` is what CNT_CUR_WINDOW reads. -/
theorem FramePayload.ofLatch_tauMs :
    ((FramePayload.ofLatch x s).tauMs).setWidth 32 = cntCurWindowImage s := by
  simp [FramePayload.ofLatch, cntCurWindowImage, fieldAt]

/-- `ppm_corr_x1e2` is what CNT_PPM reads. -/
theorem FramePayload.ofLatch_ppm :
    ((FramePayload.ofLatch x s).ppmCorrX1e2).setWidth 32 = cntPpmImage s := by
  simp [FramePayload.ofLatch, cntPpmImage, fieldAt]

/-- `mode` is 0 for GATED and 1 for RECIP. -/
theorem FramePayload.ofLatch_mode :
    (FramePayload.ofLatch x s).mode = if s.rq.latch.mode = .recip then 1 else 0 := by
  unfold FramePayload.ofLatch
  cases s.rq.latch.mode <;> rfl

end

end Sys2Proof.Machine
end

