-- ==== Sys2Proof/Laws/Operands.lean ====
section
/-! SUPPORT. What the packing of register images does, bit by bit. -/

namespace Sys2Proof.Machine

/-- A one-bit field has its bit at its place and 0 everywhere else. -/
theorem getLsbD_bitAt (n i : Nat) (b : Bool) (h : n < 32) :
    (bitAt n b).getLsbD i = (decide (i = n) && b) := by
  simp only [bitAt, BitVec.getLsbD_shiftLeft, BitVec.getLsbD_setWidth, BitVec.getLsbD_ofBool]
  by_cases hi : i = n
  · simp [hi, h]
  · simp only [hi, decide_false, Bool.false_and]
    simp
    intros; omega

/-- A field has its bits from its place on and 0 everywhere else. -/
theorem getLsbD_fieldAt {w : Nat} (n i : Nat) (x : BitVec w) :
    (fieldAt n x).getLsbD i =
      (decide (i < 32) && decide (n ≤ i) && decide (i - n < w) && x.getLsbD (i - n)) := by
  simp only [fieldAt, BitVec.getLsbD_shiftLeft, BitVec.getLsbD_setWidth]
  by_cases h1 : i < 32 <;> by_cases h2 : n ≤ i <;> simp [h1, h2]
  by_cases h3 : i - n < w
  · simp [h3, show i - n < 32 by omega, show ¬ i < n by omega]
  · simp [h3, BitVec.getLsbD_of_ge _ _ (show w ≤ i - n by omega)]

/-- A field at bit 0 is the value itself. -/
theorem fieldAt_zero {w : Nat} (x : BitVec w) : fieldAt 0 x = x.setWidth 32 := by
  simp [fieldAt]

/-- The two halves of a 64-bit value make it up. -/
theorem toNat_hi32_lo32 (x : Stamp) : x.toNat = (hi32 x).toNat * 2 ^ 32 + (lo32 x).toNat := by
  simp only [hi32, lo32, BitVec.extractLsb'_toNat]
  have := x.isLt
  simp [Nat.shiftRight_eq_div_pow]
  omega

end Sys2Proof.Machine
end

