-- ==== Sys2Proof/Laws/PerInstr.lean ====
section
/-! SUPPORT. Statements about every operation as syntax, made per constructor. Family TableRow: an operation's
descriptor has the fixed bits of its row of spec/opcode_table.json. -/

namespace Sys2Proof.Laws.TableRow

/-- The mask and the match word of an operation's row, copied from spec/opcode_table.json. -/
def row : Instr → Descriptor × Descriptor
  | .rdCntCtrl => (0xFFFF#16, 0x2000#16)
  | .wrCntCtrl _ => (0xFFFF#16, 0x6000#16)
  | .rdCntWindow => (0xFFFF#16, 0x2004#16)
  | .wrCntWindow _ => (0xFFFF#16, 0x6004#16)
  | .rdCntPpm => (0xFFFF#16, 0x2008#16)
  | .wrCntPpm _ => (0xFFFF#16, 0x6008#16)
  | .rdCntFrac => (0xFFFF#16, 0x200C#16)
  | .wrCntFrac _ => (0xFFFF#16, 0x600C#16)
  | .rdCntStatus => (0xFFFF#16, 0x2010#16)
  | .wrCntStatus _ => (0xFFFF#16, 0x6010#16)
  | .rdCntCurWindow => (0xFFFF#16, 0x2014#16)
  | .wrCntCurWindow _ => (0xFFFF#16, 0x6014#16)
  | .rdCntPulses => (0xFFFF#16, 0x2018#16)
  | .wrCntPulses _ => (0xFFFF#16, 0x6018#16)
  | .rdCntRaw => (0xFFFF#16, 0x201C#16)
  | .wrCntRaw _ => (0xFFFF#16, 0x601C#16)
  | .rdCntGlitch => (0xFFFF#16, 0x2020#16)
  | .wrCntGlitch _ => (0xFFFF#16, 0x6020#16)
  | .rdCntTarget => (0xFFFF#16, 0x2024#16)
  | .wrCntTarget _ => (0xFFFF#16, 0x6024#16)
  | .rdCntMinInterval => (0xFFFF#16, 0x2028#16)
  | .wrCntMinInterval _ => (0xFFFF#16, 0x6028#16)
  | .rdCntEstimate => (0xFFFF#16, 0x202C#16)
  | .wrCntEstimate _ => (0xFFFF#16, 0x602C#16)
  | .rdCntStartLo => (0xFFFF#16, 0x2030#16)
  | .wrCntStartLo _ => (0xFFFF#16, 0x6030#16)
  | .rdCntStartHi => (0xFFFF#16, 0x2034#16)
  | .wrCntStartHi _ => (0xFFFF#16, 0x6034#16)
  | .rdCntEndLo => (0xFFFF#16, 0x2038#16)
  | .wrCntEndLo _ => (0xFFFF#16, 0x6038#16)
  | .rdCntEndHi => (0xFFFF#16, 0x203C#16)
  | .wrCntEndHi _ => (0xFFFF#16, 0x603C#16)
  | .rdCntAlarmLo => (0xFFFF#16, 0x2040#16)
  | .wrCntAlarmLo _ => (0xFFFF#16, 0x6040#16)
  | .rdCntAlarmHi => (0xFFFF#16, 0x2044#16)
  | .wrCntAlarmHi _ => (0xFFFF#16, 0x6044#16)
  | .rdSwCtrl => (0xFFFF#16, 0x2100#16)
  | .wrSwCtrl _ => (0xFFFF#16, 0x6100#16)
  | .rdSwStatus => (0xFFFF#16, 0x2104#16)
  | .wrSwStatus _ => (0xFFFF#16, 0x6104#16)
  | .rdSwBitrate => (0xFFFF#16, 0x2108#16)
  | .wrSwBitrate _ => (0xFFFF#16, 0x6108#16)
  | .rdSwHalf => (0xFFFF#16, 0x210C#16)
  | .wrSwHalf _ => (0xFFFF#16, 0x610C#16)
  | .rdSwAddr => (0xFFFF#16, 0x2110#16)
  | .wrSwAddr _ => (0xFFFF#16, 0x6110#16)
  | .rdSwLen => (0xFFFF#16, 0x2114#16)
  | .wrSwLen _ => (0xFFFF#16, 0x6114#16)
  | .rdSwLast => (0xFFFF#16, 0x2118#16)
  | .wrSwLast _ => (0xFFFF#16, 0x6118#16)
  | .rdCrcCtrl => (0xFFFF#16, 0x2200#16)
  | .wrCrcCtrl _ => (0xFFFF#16, 0x6200#16)
  | .rdCrcData => (0xFFFF#16, 0x2204#16)
  | .wrCrcData _ => (0xFFFF#16, 0x6204#16)
  | .rdCrcValue => (0xFFFF#16, 0x2208#16)
  | .wrCrcValue _ => (0xFFFF#16, 0x6208#16)
  | .rdRqStatus => (0xFFFF#16, 0x2300#16)
  | .wrRqStatus _ => (0xFFFF#16, 0x6300#16)
  | .rdRqCmd => (0xFFFF#16, 0x2304#16)
  | .wrRqCmd _ => (0xFFFF#16, 0x6304#16)
  | .rdRqOvf => (0xFFFF#16, 0x2308#16)
  | .wrRqOvf _ => (0xFFFF#16, 0x6308#16)
  | .rdRFlags => (0xFFFF#16, 0x230C#16)
  | .wrRFlags _ => (0xFFFF#16, 0x630C#16)
  | .rdRPulses => (0xFFFF#16, 0x2310#16)
  | .wrRPulses _ => (0xFFFF#16, 0x6310#16)
  | .rdRRaw => (0xFFFF#16, 0x2314#16)
  | .wrRRaw _ => (0xFFFF#16, 0x6314#16)
  | .rdRMinInterval => (0xFFFF#16, 0x2318#16)
  | .wrRMinInterval _ => (0xFFFF#16, 0x6318#16)
  | .rdRFreqX1e4 => (0xFFFF#16, 0x231C#16)
  | .wrRFreqX1e4 _ => (0xFFFF#16, 0x631C#16)
  | .rdRElapsedLo => (0xFFFF#16, 0x2320#16)
  | .wrRElapsedLo _ => (0xFFFF#16, 0x6320#16)
  | .rdRElapsedHi => (0xFFFF#16, 0x2324#16)
  | .wrRElapsedHi _ => (0xFFFF#16, 0x6324#16)
  | .rdRStartLo => (0xFFFF#16, 0x2328#16)
  | .wrRStartLo _ => (0xFFFF#16, 0x6328#16)
  | .rdRStartHi => (0xFFFF#16, 0x232C#16)
  | .wrRStartHi _ => (0xFFFF#16, 0x632C#16)
  | .rdREndLo => (0xFFFF#16, 0x2330#16)
  | .wrREndLo _ => (0xFFFF#16, 0x6330#16)
  | .rdREndHi => (0xFFFF#16, 0x2334#16)
  | .wrREndHi _ => (0xFFFF#16, 0x6334#16)
  | .rdFqStatus => (0xFFFF#16, 0x2380#16)
  | .wrFqStatus _ => (0xFFFF#16, 0x6380#16)
  | .rdFqCmd => (0xFFFF#16, 0x2384#16)
  | .wrFqCmd _ => (0xFFFF#16, 0x6384#16)
  | .rdFqOvf => (0xFFFF#16, 0x2388#16)
  | .wrFqOvf _ => (0xFFFF#16, 0x6388#16)
  | .rdFqPush => (0xFFFF#16, 0x238C#16)
  | .wrFqPush _ => (0xFFFF#16, 0x638C#16)
  | .rdFqData => (0xFFFF#16, 0x2390#16)
  | .wrFqData _ => (0xFFFF#16, 0x6390#16)
  | .rdSwBuf _ => (0xFC03#16, 0x2400#16)
  | .wrSwBuf _ _ => (0xFC03#16, 0x6400#16)
  | .rdNowLo => (0xFFFF#16, 0x2F00#16)
  | .wrNowLo _ => (0xFFFF#16, 0x6F00#16)
  | .rdNowHi => (0xFFFF#16, 0x2F04#16)
  | .wrNowHi _ => (0xFFFF#16, 0x6F04#16)
  | .rdIntEn => (0xFFFF#16, 0x2F08#16)
  | .wrIntEn _ => (0xFFFF#16, 0x6F08#16)
  | .rdIntStat => (0xFFFF#16, 0x2F0C#16)
  | .wrIntStat _ => (0xFFFF#16, 0x6F0C#16)
  | .evTick => (0xFFFF#16, 0x8000#16)
  | .evSigHigh => (0xFFFF#16, 0x8001#16)
  | .evSigLow => (0xFFFF#16, 0x8002#16)
  | .evSyncHigh => (0xFFFF#16, 0x8003#16)
  | .evSyncLow => (0xFFFF#16, 0x8004#16)
  | .evSwioHigh => (0xFFFF#16, 0x8005#16)
  | .evSwioLow => (0xFFFF#16, 0x8006#16)
  | .evReset => (0xFFFF#16, 0x8007#16)
  | .rdBuserrSize8 _ => (0xF000#16, 0x0000#16)
  | .rdBuserrSize16 _ => (0xF000#16, 0x1000#16)
  | .rdBuserrSize64 _ => (0xF000#16, 0x3000#16)
  | .wrBuserrSize8 _ _ => (0xF000#16, 0x4000#16)
  | .wrBuserrSize16 _ _ => (0xF000#16, 0x5000#16)
  | .wrBuserrSize64 _ _ => (0xF000#16, 0x7000#16)
  | .rdBuserrAlign1 _ => (0xF003#16, 0x2001#16)
  | .rdBuserrAlign2 _ => (0xF003#16, 0x2002#16)
  | .rdBuserrAlign3 _ => (0xF003#16, 0x2003#16)
  | .wrBuserrAlign1 _ _ => (0xF003#16, 0x6001#16)
  | .wrBuserrAlign2 _ _ => (0xF003#16, 0x6002#16)
  | .wrBuserrAlign3 _ _ => (0xF003#16, 0x6003#16)
  | .rdUnmapped _ => (0xF003#16, 0x2000#16)
  | .wrUnmapped _ _ => (0xF003#16, 0x6000#16)
  | .reservedClass _ => (0xC000#16, 0xC000#16)
  | .reservedEvtZ4 _ _ => (0xC010#16, 0x8010#16)
  | .reservedEvtZ5 _ _ => (0xC020#16, 0x8020#16)
  | .reservedEvtZ6 _ _ => (0xC040#16, 0x8040#16)
  | .reservedEvtZ7 _ _ => (0xC080#16, 0x8080#16)
  | .reservedEvtZ8 _ _ => (0xC100#16, 0x8100#16)
  | .reservedEvtZ9 _ _ => (0xC200#16, 0x8200#16)
  | .reservedEvtZ10 _ _ => (0xC400#16, 0x8400#16)
  | .reservedEvtZ11 _ _ => (0xC800#16, 0x8800#16)
  | .reservedEvtZ12 _ _ => (0xD000#16, 0x9000#16)
  | .reservedEvtZ13 _ => (0xE000#16, 0xA000#16)
  | .reservedEvtEv _ => (0xC008#16, 0x8008#16)

/-- The fixed bits of the row are the operation's. -/
def Statement (i : Instr) : Prop := (encode i).1 &&& (row i).1 = (row i).2

/-! ## Descriptors with free bits -/

theorem size_bits (cls size : BitVec 2) (off : Offset) :
    busWord cls size off &&& 0xF000#16 = (cls ++ size ++ 0#12 : BitVec 16) := by
  apply BitVec.eq_of_getLsbD_eq; intro i hi
  simp only [busWord, BitVec.getLsbD_and, BitVec.getLsbD_append]
  interval_cases i <;> simp

theorem low_bits (cls size low : BitVec 2) (w : BitVec 10) :
    busWord cls size (mkOff w low) &&& 0xF003#16 = (cls ++ size ++ 0#10 ++ low : BitVec 16) := by
  apply BitVec.eq_of_getLsbD_eq; intro i hi
  simp only [busWord, mkOff, BitVec.getLsbD_and, BitVec.getLsbD_append]
  interval_cases i <;> simp

theorem buf_bits (cls size : BitVec 2) (j : BitVec 8) :
    busWord cls size (swBufOff j) &&& 0xFC03#16 = (cls ++ size ++ 0b01#2 ++ 0#10 : BitVec 16) := by
  apply BitVec.eq_of_getLsbD_eq; intro i hi
  simp only [busWord, swBufOff, BitVec.getLsbD_and, BitVec.getLsbD_append]
  interval_cases i <;> simp

/-! ## One lemma per operation -/

theorem rdCntCtrl : Statement .rdCntCtrl :=
  (by decide : readWord 0x000#12 &&& 0xFFFF#16 = 0x2000#16)

theorem wrCntCtrl (v : Word) : Statement (.wrCntCtrl v) :=
  (by decide : writeWord 0x000#12 &&& 0xFFFF#16 = 0x6000#16)

theorem rdCntWindow : Statement .rdCntWindow :=
  (by decide : readWord 0x004#12 &&& 0xFFFF#16 = 0x2004#16)

theorem wrCntWindow (v : Word) : Statement (.wrCntWindow v) :=
  (by decide : writeWord 0x004#12 &&& 0xFFFF#16 = 0x6004#16)

theorem rdCntPpm : Statement .rdCntPpm :=
  (by decide : readWord 0x008#12 &&& 0xFFFF#16 = 0x2008#16)

theorem wrCntPpm (v : Word) : Statement (.wrCntPpm v) :=
  (by decide : writeWord 0x008#12 &&& 0xFFFF#16 = 0x6008#16)

theorem rdCntFrac : Statement .rdCntFrac :=
  (by decide : readWord 0x00C#12 &&& 0xFFFF#16 = 0x200C#16)

theorem wrCntFrac (v : Word) : Statement (.wrCntFrac v) :=
  (by decide : writeWord 0x00C#12 &&& 0xFFFF#16 = 0x600C#16)

theorem rdCntStatus : Statement .rdCntStatus :=
  (by decide : readWord 0x010#12 &&& 0xFFFF#16 = 0x2010#16)

theorem wrCntStatus (v : Word) : Statement (.wrCntStatus v) :=
  (by decide : writeWord 0x010#12 &&& 0xFFFF#16 = 0x6010#16)

theorem rdCntCurWindow : Statement .rdCntCurWindow :=
  (by decide : readWord 0x014#12 &&& 0xFFFF#16 = 0x2014#16)

theorem wrCntCurWindow (v : Word) : Statement (.wrCntCurWindow v) :=
  (by decide : writeWord 0x014#12 &&& 0xFFFF#16 = 0x6014#16)

theorem rdCntPulses : Statement .rdCntPulses :=
  (by decide : readWord 0x018#12 &&& 0xFFFF#16 = 0x2018#16)

theorem wrCntPulses (v : Word) : Statement (.wrCntPulses v) :=
  (by decide : writeWord 0x018#12 &&& 0xFFFF#16 = 0x6018#16)

theorem rdCntRaw : Statement .rdCntRaw :=
  (by decide : readWord 0x01C#12 &&& 0xFFFF#16 = 0x201C#16)

theorem wrCntRaw (v : Word) : Statement (.wrCntRaw v) :=
  (by decide : writeWord 0x01C#12 &&& 0xFFFF#16 = 0x601C#16)

theorem rdCntGlitch : Statement .rdCntGlitch :=
  (by decide : readWord 0x020#12 &&& 0xFFFF#16 = 0x2020#16)

theorem wrCntGlitch (v : Word) : Statement (.wrCntGlitch v) :=
  (by decide : writeWord 0x020#12 &&& 0xFFFF#16 = 0x6020#16)

theorem rdCntTarget : Statement .rdCntTarget :=
  (by decide : readWord 0x024#12 &&& 0xFFFF#16 = 0x2024#16)

theorem wrCntTarget (v : Word) : Statement (.wrCntTarget v) :=
  (by decide : writeWord 0x024#12 &&& 0xFFFF#16 = 0x6024#16)

theorem rdCntMinInterval : Statement .rdCntMinInterval :=
  (by decide : readWord 0x028#12 &&& 0xFFFF#16 = 0x2028#16)

theorem wrCntMinInterval (v : Word) : Statement (.wrCntMinInterval v) :=
  (by decide : writeWord 0x028#12 &&& 0xFFFF#16 = 0x6028#16)

theorem rdCntEstimate : Statement .rdCntEstimate :=
  (by decide : readWord 0x02C#12 &&& 0xFFFF#16 = 0x202C#16)

theorem wrCntEstimate (v : Word) : Statement (.wrCntEstimate v) :=
  (by decide : writeWord 0x02C#12 &&& 0xFFFF#16 = 0x602C#16)

theorem rdCntStartLo : Statement .rdCntStartLo :=
  (by decide : readWord 0x030#12 &&& 0xFFFF#16 = 0x2030#16)

theorem wrCntStartLo (v : Word) : Statement (.wrCntStartLo v) :=
  (by decide : writeWord 0x030#12 &&& 0xFFFF#16 = 0x6030#16)

theorem rdCntStartHi : Statement .rdCntStartHi :=
  (by decide : readWord 0x034#12 &&& 0xFFFF#16 = 0x2034#16)

theorem wrCntStartHi (v : Word) : Statement (.wrCntStartHi v) :=
  (by decide : writeWord 0x034#12 &&& 0xFFFF#16 = 0x6034#16)

theorem rdCntEndLo : Statement .rdCntEndLo :=
  (by decide : readWord 0x038#12 &&& 0xFFFF#16 = 0x2038#16)

theorem wrCntEndLo (v : Word) : Statement (.wrCntEndLo v) :=
  (by decide : writeWord 0x038#12 &&& 0xFFFF#16 = 0x6038#16)

theorem rdCntEndHi : Statement .rdCntEndHi :=
  (by decide : readWord 0x03C#12 &&& 0xFFFF#16 = 0x203C#16)

theorem wrCntEndHi (v : Word) : Statement (.wrCntEndHi v) :=
  (by decide : writeWord 0x03C#12 &&& 0xFFFF#16 = 0x603C#16)

theorem rdCntAlarmLo : Statement .rdCntAlarmLo :=
  (by decide : readWord 0x040#12 &&& 0xFFFF#16 = 0x2040#16)

theorem wrCntAlarmLo (v : Word) : Statement (.wrCntAlarmLo v) :=
  (by decide : writeWord 0x040#12 &&& 0xFFFF#16 = 0x6040#16)

theorem rdCntAlarmHi : Statement .rdCntAlarmHi :=
  (by decide : readWord 0x044#12 &&& 0xFFFF#16 = 0x2044#16)

theorem wrCntAlarmHi (v : Word) : Statement (.wrCntAlarmHi v) :=
  (by decide : writeWord 0x044#12 &&& 0xFFFF#16 = 0x6044#16)

theorem rdSwCtrl : Statement .rdSwCtrl :=
  (by decide : readWord 0x100#12 &&& 0xFFFF#16 = 0x2100#16)

theorem wrSwCtrl (v : Word) : Statement (.wrSwCtrl v) :=
  (by decide : writeWord 0x100#12 &&& 0xFFFF#16 = 0x6100#16)

theorem rdSwStatus : Statement .rdSwStatus :=
  (by decide : readWord 0x104#12 &&& 0xFFFF#16 = 0x2104#16)

theorem wrSwStatus (v : Word) : Statement (.wrSwStatus v) :=
  (by decide : writeWord 0x104#12 &&& 0xFFFF#16 = 0x6104#16)

theorem rdSwBitrate : Statement .rdSwBitrate :=
  (by decide : readWord 0x108#12 &&& 0xFFFF#16 = 0x2108#16)

theorem wrSwBitrate (v : Word) : Statement (.wrSwBitrate v) :=
  (by decide : writeWord 0x108#12 &&& 0xFFFF#16 = 0x6108#16)

theorem rdSwHalf : Statement .rdSwHalf :=
  (by decide : readWord 0x10C#12 &&& 0xFFFF#16 = 0x210C#16)

theorem wrSwHalf (v : Word) : Statement (.wrSwHalf v) :=
  (by decide : writeWord 0x10C#12 &&& 0xFFFF#16 = 0x610C#16)

theorem rdSwAddr : Statement .rdSwAddr :=
  (by decide : readWord 0x110#12 &&& 0xFFFF#16 = 0x2110#16)

theorem wrSwAddr (v : Word) : Statement (.wrSwAddr v) :=
  (by decide : writeWord 0x110#12 &&& 0xFFFF#16 = 0x6110#16)

theorem rdSwLen : Statement .rdSwLen :=
  (by decide : readWord 0x114#12 &&& 0xFFFF#16 = 0x2114#16)

theorem wrSwLen (v : Word) : Statement (.wrSwLen v) :=
  (by decide : writeWord 0x114#12 &&& 0xFFFF#16 = 0x6114#16)

theorem rdSwLast : Statement .rdSwLast :=
  (by decide : readWord 0x118#12 &&& 0xFFFF#16 = 0x2118#16)

theorem wrSwLast (v : Word) : Statement (.wrSwLast v) :=
  (by decide : writeWord 0x118#12 &&& 0xFFFF#16 = 0x6118#16)

theorem rdCrcCtrl : Statement .rdCrcCtrl :=
  (by decide : readWord 0x200#12 &&& 0xFFFF#16 = 0x2200#16)

theorem wrCrcCtrl (v : Word) : Statement (.wrCrcCtrl v) :=
  (by decide : writeWord 0x200#12 &&& 0xFFFF#16 = 0x6200#16)

theorem rdCrcData : Statement .rdCrcData :=
  (by decide : readWord 0x204#12 &&& 0xFFFF#16 = 0x2204#16)

theorem wrCrcData (v : Word) : Statement (.wrCrcData v) :=
  (by decide : writeWord 0x204#12 &&& 0xFFFF#16 = 0x6204#16)

theorem rdCrcValue : Statement .rdCrcValue :=
  (by decide : readWord 0x208#12 &&& 0xFFFF#16 = 0x2208#16)

theorem wrCrcValue (v : Word) : Statement (.wrCrcValue v) :=
  (by decide : writeWord 0x208#12 &&& 0xFFFF#16 = 0x6208#16)

theorem rdRqStatus : Statement .rdRqStatus :=
  (by decide : readWord 0x300#12 &&& 0xFFFF#16 = 0x2300#16)

theorem wrRqStatus (v : Word) : Statement (.wrRqStatus v) :=
  (by decide : writeWord 0x300#12 &&& 0xFFFF#16 = 0x6300#16)

theorem rdRqCmd : Statement .rdRqCmd :=
  (by decide : readWord 0x304#12 &&& 0xFFFF#16 = 0x2304#16)

theorem wrRqCmd (v : Word) : Statement (.wrRqCmd v) :=
  (by decide : writeWord 0x304#12 &&& 0xFFFF#16 = 0x6304#16)

theorem rdRqOvf : Statement .rdRqOvf :=
  (by decide : readWord 0x308#12 &&& 0xFFFF#16 = 0x2308#16)

theorem wrRqOvf (v : Word) : Statement (.wrRqOvf v) :=
  (by decide : writeWord 0x308#12 &&& 0xFFFF#16 = 0x6308#16)

theorem rdRFlags : Statement .rdRFlags :=
  (by decide : readWord 0x30C#12 &&& 0xFFFF#16 = 0x230C#16)

theorem wrRFlags (v : Word) : Statement (.wrRFlags v) :=
  (by decide : writeWord 0x30C#12 &&& 0xFFFF#16 = 0x630C#16)

theorem rdRPulses : Statement .rdRPulses :=
  (by decide : readWord 0x310#12 &&& 0xFFFF#16 = 0x2310#16)

theorem wrRPulses (v : Word) : Statement (.wrRPulses v) :=
  (by decide : writeWord 0x310#12 &&& 0xFFFF#16 = 0x6310#16)

theorem rdRRaw : Statement .rdRRaw :=
  (by decide : readWord 0x314#12 &&& 0xFFFF#16 = 0x2314#16)

theorem wrRRaw (v : Word) : Statement (.wrRRaw v) :=
  (by decide : writeWord 0x314#12 &&& 0xFFFF#16 = 0x6314#16)

theorem rdRMinInterval : Statement .rdRMinInterval :=
  (by decide : readWord 0x318#12 &&& 0xFFFF#16 = 0x2318#16)

theorem wrRMinInterval (v : Word) : Statement (.wrRMinInterval v) :=
  (by decide : writeWord 0x318#12 &&& 0xFFFF#16 = 0x6318#16)

theorem rdRFreqX1e4 : Statement .rdRFreqX1e4 :=
  (by decide : readWord 0x31C#12 &&& 0xFFFF#16 = 0x231C#16)

theorem wrRFreqX1e4 (v : Word) : Statement (.wrRFreqX1e4 v) :=
  (by decide : writeWord 0x31C#12 &&& 0xFFFF#16 = 0x631C#16)

theorem rdRElapsedLo : Statement .rdRElapsedLo :=
  (by decide : readWord 0x320#12 &&& 0xFFFF#16 = 0x2320#16)

theorem wrRElapsedLo (v : Word) : Statement (.wrRElapsedLo v) :=
  (by decide : writeWord 0x320#12 &&& 0xFFFF#16 = 0x6320#16)

theorem rdRElapsedHi : Statement .rdRElapsedHi :=
  (by decide : readWord 0x324#12 &&& 0xFFFF#16 = 0x2324#16)

theorem wrRElapsedHi (v : Word) : Statement (.wrRElapsedHi v) :=
  (by decide : writeWord 0x324#12 &&& 0xFFFF#16 = 0x6324#16)

theorem rdRStartLo : Statement .rdRStartLo :=
  (by decide : readWord 0x328#12 &&& 0xFFFF#16 = 0x2328#16)

theorem wrRStartLo (v : Word) : Statement (.wrRStartLo v) :=
  (by decide : writeWord 0x328#12 &&& 0xFFFF#16 = 0x6328#16)

theorem rdRStartHi : Statement .rdRStartHi :=
  (by decide : readWord 0x32C#12 &&& 0xFFFF#16 = 0x232C#16)

theorem wrRStartHi (v : Word) : Statement (.wrRStartHi v) :=
  (by decide : writeWord 0x32C#12 &&& 0xFFFF#16 = 0x632C#16)

theorem rdREndLo : Statement .rdREndLo :=
  (by decide : readWord 0x330#12 &&& 0xFFFF#16 = 0x2330#16)

theorem wrREndLo (v : Word) : Statement (.wrREndLo v) :=
  (by decide : writeWord 0x330#12 &&& 0xFFFF#16 = 0x6330#16)

theorem rdREndHi : Statement .rdREndHi :=
  (by decide : readWord 0x334#12 &&& 0xFFFF#16 = 0x2334#16)

theorem wrREndHi (v : Word) : Statement (.wrREndHi v) :=
  (by decide : writeWord 0x334#12 &&& 0xFFFF#16 = 0x6334#16)

theorem rdFqStatus : Statement .rdFqStatus :=
  (by decide : readWord 0x380#12 &&& 0xFFFF#16 = 0x2380#16)

theorem wrFqStatus (v : Word) : Statement (.wrFqStatus v) :=
  (by decide : writeWord 0x380#12 &&& 0xFFFF#16 = 0x6380#16)

theorem rdFqCmd : Statement .rdFqCmd :=
  (by decide : readWord 0x384#12 &&& 0xFFFF#16 = 0x2384#16)

theorem wrFqCmd (v : Word) : Statement (.wrFqCmd v) :=
  (by decide : writeWord 0x384#12 &&& 0xFFFF#16 = 0x6384#16)

theorem rdFqOvf : Statement .rdFqOvf :=
  (by decide : readWord 0x388#12 &&& 0xFFFF#16 = 0x2388#16)

theorem wrFqOvf (v : Word) : Statement (.wrFqOvf v) :=
  (by decide : writeWord 0x388#12 &&& 0xFFFF#16 = 0x6388#16)

theorem rdFqPush : Statement .rdFqPush :=
  (by decide : readWord 0x38C#12 &&& 0xFFFF#16 = 0x238C#16)

theorem wrFqPush (v : Word) : Statement (.wrFqPush v) :=
  (by decide : writeWord 0x38C#12 &&& 0xFFFF#16 = 0x638C#16)

theorem rdFqData : Statement .rdFqData :=
  (by decide : readWord 0x390#12 &&& 0xFFFF#16 = 0x2390#16)

theorem wrFqData (v : Word) : Statement (.wrFqData v) :=
  (by decide : writeWord 0x390#12 &&& 0xFFFF#16 = 0x6390#16)

theorem rdSwBuf (j : BitVec 8) : Statement (.rdSwBuf j) :=
  (buf_bits _ _ j).trans (show _ = 0x2400#16 by decide)

theorem wrSwBuf (j : BitVec 8) (v : Word) : Statement (.wrSwBuf j v) :=
  (buf_bits _ _ j).trans (show _ = 0x6400#16 by decide)

theorem rdNowLo : Statement .rdNowLo :=
  (by decide : readWord 0xF00#12 &&& 0xFFFF#16 = 0x2F00#16)

theorem wrNowLo (v : Word) : Statement (.wrNowLo v) :=
  (by decide : writeWord 0xF00#12 &&& 0xFFFF#16 = 0x6F00#16)

theorem rdNowHi : Statement .rdNowHi :=
  (by decide : readWord 0xF04#12 &&& 0xFFFF#16 = 0x2F04#16)

theorem wrNowHi (v : Word) : Statement (.wrNowHi v) :=
  (by decide : writeWord 0xF04#12 &&& 0xFFFF#16 = 0x6F04#16)

theorem rdIntEn : Statement .rdIntEn :=
  (by decide : readWord 0xF08#12 &&& 0xFFFF#16 = 0x2F08#16)

theorem wrIntEn (v : Word) : Statement (.wrIntEn v) :=
  (by decide : writeWord 0xF08#12 &&& 0xFFFF#16 = 0x6F08#16)

theorem rdIntStat : Statement .rdIntStat :=
  (by decide : readWord 0xF0C#12 &&& 0xFFFF#16 = 0x2F0C#16)

theorem wrIntStat (v : Word) : Statement (.wrIntStat v) :=
  (by decide : writeWord 0xF0C#12 &&& 0xFFFF#16 = 0x6F0C#16)

theorem evTick : Statement .evTick := by unfold Statement; decide

theorem evSigHigh : Statement .evSigHigh := by unfold Statement; decide

theorem evSigLow : Statement .evSigLow := by unfold Statement; decide

theorem evSyncHigh : Statement .evSyncHigh := by unfold Statement; decide

theorem evSyncLow : Statement .evSyncLow := by unfold Statement; decide

theorem evSwioHigh : Statement .evSwioHigh := by unfold Statement; decide

theorem evSwioLow : Statement .evSwioLow := by unfold Statement; decide

theorem evReset : Statement .evReset := by unfold Statement; decide

theorem rdBuserrSize8 (off : Offset) : Statement (.rdBuserrSize8 off) :=
  (size_bits _ _ off).trans (show _ = 0x0000#16 by decide)

theorem rdBuserrSize16 (off : Offset) : Statement (.rdBuserrSize16 off) :=
  (size_bits _ _ off).trans (show _ = 0x1000#16 by decide)

theorem rdBuserrSize64 (off : Offset) : Statement (.rdBuserrSize64 off) :=
  (size_bits _ _ off).trans (show _ = 0x3000#16 by decide)

theorem wrBuserrSize8 (off : Offset) (v : Word) : Statement (.wrBuserrSize8 off v) :=
  (size_bits _ _ off).trans (show _ = 0x4000#16 by decide)

theorem wrBuserrSize16 (off : Offset) (v : Word) : Statement (.wrBuserrSize16 off v) :=
  (size_bits _ _ off).trans (show _ = 0x5000#16 by decide)

theorem wrBuserrSize64 (off : Offset) (v : Word) : Statement (.wrBuserrSize64 off v) :=
  (size_bits _ _ off).trans (show _ = 0x7000#16 by decide)

theorem rdBuserrAlign1 (w : BitVec 10) : Statement (.rdBuserrAlign1 w) :=
  (low_bits _ _ _ w).trans (show _ = 0x2001#16 by decide)

theorem rdBuserrAlign2 (w : BitVec 10) : Statement (.rdBuserrAlign2 w) :=
  (low_bits _ _ _ w).trans (show _ = 0x2002#16 by decide)

theorem rdBuserrAlign3 (w : BitVec 10) : Statement (.rdBuserrAlign3 w) :=
  (low_bits _ _ _ w).trans (show _ = 0x2003#16 by decide)

theorem wrBuserrAlign1 (w : BitVec 10) (v : Word) : Statement (.wrBuserrAlign1 w v) :=
  (low_bits _ _ _ w).trans (show _ = 0x6001#16 by decide)

theorem wrBuserrAlign2 (w : BitVec 10) (v : Word) : Statement (.wrBuserrAlign2 w v) :=
  (low_bits _ _ _ w).trans (show _ = 0x6002#16 by decide)

theorem wrBuserrAlign3 (w : BitVec 10) (v : Word) : Statement (.wrBuserrAlign3 w v) :=
  (low_bits _ _ _ w).trans (show _ = 0x6003#16 by decide)

theorem rdUnmapped (w : BitVec 10) : Statement (.rdUnmapped w) :=
  (low_bits _ _ _ w).trans (show _ = 0x2000#16 by decide)

theorem wrUnmapped (w : BitVec 10) (v : Word) : Statement (.wrUnmapped w v) :=
  (low_bits _ _ _ w).trans (show _ = 0x6000#16 by decide)

theorem reservedClass (low : BitVec 14) : Statement (.reservedClass low) := by
  apply BitVec.eq_of_getLsbD_eq; intro i hi
  simp only [encode, row, BitVec.getLsbD_and, BitVec.getLsbD_append]
  interval_cases i <;> simp

theorem reservedEvtZ4 (hi : BitVec 9) (ev : BitVec 4) : Statement (.reservedEvtZ4 hi ev) := by
  apply BitVec.eq_of_getLsbD_eq; intro i hi
  simp only [encode, row, evtWord, BitVec.getLsbD_and, BitVec.getLsbD_append]
  interval_cases i <;> simp

theorem reservedEvtZ5 (hi : BitVec 8) (ev : BitVec 4) : Statement (.reservedEvtZ5 hi ev) := by
  apply BitVec.eq_of_getLsbD_eq; intro i hi
  simp only [encode, row, evtWord, BitVec.getLsbD_and, BitVec.getLsbD_append]
  interval_cases i <;> simp

theorem reservedEvtZ6 (hi : BitVec 7) (ev : BitVec 4) : Statement (.reservedEvtZ6 hi ev) := by
  apply BitVec.eq_of_getLsbD_eq; intro i hi
  simp only [encode, row, evtWord, BitVec.getLsbD_and, BitVec.getLsbD_append]
  interval_cases i <;> simp

theorem reservedEvtZ7 (hi : BitVec 6) (ev : BitVec 4) : Statement (.reservedEvtZ7 hi ev) := by
  apply BitVec.eq_of_getLsbD_eq; intro i hi
  simp only [encode, row, evtWord, BitVec.getLsbD_and, BitVec.getLsbD_append]
  interval_cases i <;> simp

theorem reservedEvtZ8 (hi : BitVec 5) (ev : BitVec 4) : Statement (.reservedEvtZ8 hi ev) := by
  apply BitVec.eq_of_getLsbD_eq; intro i hi
  simp only [encode, row, evtWord, BitVec.getLsbD_and, BitVec.getLsbD_append]
  interval_cases i <;> simp

theorem reservedEvtZ9 (hi : BitVec 4) (ev : BitVec 4) : Statement (.reservedEvtZ9 hi ev) := by
  apply BitVec.eq_of_getLsbD_eq; intro i hi
  simp only [encode, row, evtWord, BitVec.getLsbD_and, BitVec.getLsbD_append]
  interval_cases i <;> simp

theorem reservedEvtZ10 (hi : BitVec 3) (ev : BitVec 4) : Statement (.reservedEvtZ10 hi ev) := by
  apply BitVec.eq_of_getLsbD_eq; intro i hi
  simp only [encode, row, evtWord, BitVec.getLsbD_and, BitVec.getLsbD_append]
  interval_cases i <;> simp

theorem reservedEvtZ11 (hi : BitVec 2) (ev : BitVec 4) : Statement (.reservedEvtZ11 hi ev) := by
  apply BitVec.eq_of_getLsbD_eq; intro i hi
  simp only [encode, row, evtWord, BitVec.getLsbD_and, BitVec.getLsbD_append]
  interval_cases i <;> simp

theorem reservedEvtZ12 (hi : BitVec 1) (ev : BitVec 4) : Statement (.reservedEvtZ12 hi ev) := by
  apply BitVec.eq_of_getLsbD_eq; intro i hi
  simp only [encode, row, evtWord, BitVec.getLsbD_and, BitVec.getLsbD_append]
  interval_cases i <;> simp

theorem reservedEvtZ13 (ev : BitVec 4) : Statement (.reservedEvtZ13 ev) := by
  apply BitVec.eq_of_getLsbD_eq; intro i hi
  simp only [encode, row, evtWord, BitVec.getLsbD_and, BitVec.getLsbD_append]
  interval_cases i <;> simp

theorem reservedEvtEv (ev : BitVec 3) : Statement (.reservedEvtEv ev) := by
  apply BitVec.eq_of_getLsbD_eq; intro i hi
  simp only [encode, row, evtWord, BitVec.getLsbD_and, BitVec.getLsbD_append]
  interval_cases i <;> simp

end Sys2Proof.Laws.TableRow
end

