-- ==== Sys2Proof/Laws/Step.lean ====
section
/-! SUPPORT. What a step does, once: the three ways it can answer a next state or a refusal, and what every
operation leaves alone. -/

namespace Sys2Proof.Machine

variable {s t : State}

/-- All an operation that answers a next state can have done, but for the response it leaves. -/
inductive Effect (s : State) : Instr → State → Prop where
  /-- A read, a write that is acknowledged and ignored, or an access answered with a bus error. -/
  | quiet (i : Instr) (ht : i ≠ .evTick) (hr : i ≠ .evReset) : Effect s i s
  | cntCtrl (v : Word) : Effect s (.wrCntCtrl v) (writeCntCtrl v s)
  | cntWindow (v : Word) : Effect s (.wrCntWindow v) (s.setCntCfg { s.cntCfg with windowMs := vLow16 v })
  | cntPpm (v : Word) : Effect s (.wrCntPpm v) (s.setCntCfg { s.cntCfg with ppmX100 := vLow16 v })
  | cntFrac (v : Word) : Effect s (.wrCntFrac v) (writeCntFrac v s)
  | sigHigh : Effect s .evSigHigh (sigHigh s)
  | sigLow : Effect s .evSigLow (s.setCnt { s.cnt with sigLevel := false })
  | syncHigh : Effect s .evSyncHigh (syncHigh s)
  | syncLow : Effect s .evSyncLow (syncLow s)
  | swCtrl (v : Word) : Effect s (.wrSwCtrl v) (s.setSw (writeSwCtrl s.params s.swCfg v s.sw))
  | swBitrate (v : Word) (h : s.sw.busy = false) :
      Effect s (.wrSwBitrate v) (s.setSwCfg { s.swCfg with bitrate := v })
  | swAddr (v : Word) (h : s.sw.busy = false) :
      Effect s (.wrSwAddr v) (s.setSwCfg { s.swCfg with addr := vLow16 v })
  | swLen (v : Word) (h : s.sw.busy = false) :
      Effect s (.wrSwLen v) (s.setSwCfg { s.swCfg with len := vLow16 v })
  | swioHigh : Effect s .evSwioHigh (s.setSw { s.sw with swioIn := true })
  | swioLow : Effect s .evSwioLow (s.setSw { s.sw with swioIn := false })
  | crcInit (v : Word) : Effect s (.wrCrcCtrl v) (s.setCrc Config.crcInit)
  | crcData (v : Word) : Effect s (.wrCrcData v) (s.setCrc (crcByte s.crc (vLow8 v)))
  | rqPop (v : Word) (h : v.getLsbD 0 = true) : Effect s (.wrRqCmd v) (s.setRq s.rq.pop)
  | rqOvf (v : Word) : Effect s (.wrRqOvf v) (s.setRq s.rq.clearOvf)
  | fqPop (v : Word) (h : v.getLsbD 0 = true) : Effect s (.wrFqCmd v) (s.setFq s.fq.pop)
  | fqOvf (v : Word) : Effect s (.wrFqOvf v) (s.setFq s.fq.clearOvf)
  | fqPush (v : Word) : Effect s (.wrFqPush v) (s.setFq (s.fq.push s.params.fqDepth v))
  | intEn (v : Word) : Effect s (.wrIntEn v) (s.setIntEn (vLow3 v))
  | tick : Effect s .evTick (tick s)
  | reset : Effect s .evReset (resetAll s)

/-- An operation's next state is its effect with a response. -/
theorem exec_effect {i : Instr} (h : exec i s = .next t) :
    ∃ u r, Effect s i u ∧ t = u.setResponse r := by
  cases i
  case evReset => cases h; exact ⟨_, .none, .reset, rfl⟩
  case wrSwBitrate v =>
    cases h
    cases hb : s.sw.busy
    · exact ⟨_, .ack, .swBitrate v hb, by simp [acknowledge]⟩
    · exact ⟨s, .ack, .quiet _ nofun nofun, by simp [acknowledge]⟩
  case wrSwAddr v =>
    cases h
    cases hb : s.sw.busy
    · exact ⟨_, .ack, .swAddr v hb, by simp [acknowledge]⟩
    · exact ⟨s, .ack, .quiet _ nofun nofun, by simp [acknowledge]⟩
  case wrSwLen v =>
    cases h
    cases hb : s.sw.busy
    · exact ⟨_, .ack, .swLen v hb, by simp [acknowledge]⟩
    · exact ⟨s, .ack, .quiet _ nofun nofun, by simp [acknowledge]⟩
  case wrCrcCtrl v =>
    cases h
    cases hb : vBit0 v
    · exact ⟨s, .ack, .quiet _ nofun nofun, by simp [acknowledge]⟩
    · exact ⟨_, .ack, .crcInit v, by simp [acknowledge]⟩
  case wrRqCmd v =>
    cases h
    cases hb : vBit0 v
    · exact ⟨s, .ack, .quiet _ nofun nofun, by simp [acknowledge]⟩
    · exact ⟨_, .ack, .rqPop v hb, by simp [acknowledge]⟩
  case wrFqCmd v =>
    cases h
    cases hb : vBit0 v
    · exact ⟨s, .ack, .quiet _ nofun nofun, by simp [acknowledge]⟩
    · exact ⟨_, .ack, .fqPop v hb, by simp [acknowledge]⟩
  case wrCntCtrl v => cases h; exact ⟨_, _, .cntCtrl v, rfl⟩
  case wrCntWindow v => cases h; exact ⟨_, _, .cntWindow v, rfl⟩
  case wrCntPpm v => cases h; exact ⟨_, _, .cntPpm v, rfl⟩
  case wrCntFrac v => cases h; exact ⟨_, _, .cntFrac v, rfl⟩
  case evSigHigh => cases h; exact ⟨_, _, .sigHigh, rfl⟩
  case evSigLow => cases h; exact ⟨_, _, .sigLow, rfl⟩
  case evSyncHigh => cases h; exact ⟨_, _, .syncHigh, rfl⟩
  case evSyncLow => cases h; exact ⟨_, _, .syncLow, rfl⟩
  case wrSwCtrl v => cases h; exact ⟨_, _, .swCtrl v, rfl⟩
  case evSwioHigh => cases h; exact ⟨_, _, .swioHigh, rfl⟩
  case evSwioLow => cases h; exact ⟨_, _, .swioLow, rfl⟩
  case wrCrcData v => cases h; exact ⟨_, _, .crcData v, rfl⟩
  case wrRqOvf v => cases h; exact ⟨_, _, .rqOvf v, rfl⟩
  case wrFqOvf v => cases h; exact ⟨_, _, .fqOvf v, rfl⟩
  case wrFqPush v => cases h; exact ⟨_, _, .fqPush v, rfl⟩
  case wrIntEn v => cases h; exact ⟨_, _, .intEn v, rfl⟩
  case evTick => cases h; exact ⟨_, _, .tick, rfl⟩
  all_goals cases h
  all_goals exact ⟨s, _, .quiet _ nofun nofun, rfl⟩

/-- A step with nothing pending. -/
theorem step_idle (hv : s.params.Valid) (hp : s.pending = []) : step s = .next s := by
  simp [step, hv, takeRequest_nil hp]

/-- A step that performs the first pending operation. -/
theorem step_of_exec {r : Request} {rest : List Request} {u : State} (hv : s.params.Valid)
    (hp : s.pending = r :: rest) (hq : r.proper = true)
    (he : exec (decode s.params.bufCap r.desc r.data) (s.setPending rest) = .next u) :
    step s = .next (recordFault r.agent u) := by
  rw [step, if_pos hv]
  simp only [takeRequest_cons hp, hq, if_true, decodeRequest, he]

/-- A step whose first pending operation its agent has no move for. -/
theorem step_of_improper {r : Request} {rest : List Request} (hv : s.params.Valid)
    (hp : s.pending = r :: rest) (hq : r.proper = false) : step s = .refused .agentHasNoMove := by
  rw [step, if_pos hv]
  simp [takeRequest_cons hp, hq]

/-- All a step that answers a next state can have done. -/
theorem step_cases (h : step s = .next t) :
    s.params.Valid ∧
      ((s.pending = [] ∧ t = s) ∨
        ∃ r rest u, s.pending = r :: rest ∧ r.proper = true ∧
          exec (decode s.params.bufCap r.desc r.data) (s.setPending rest) = .next u ∧
          t = recordFault r.agent u) := by
  unfold step at h
  split at h
  · rename_i hv
    refine ⟨hv, ?_⟩
    cases hp : s.pending with
    | nil =>
      rw [takeRequest_nil hp] at h
      cases h
      exact .inl ⟨rfl, rfl⟩
    | cons r rest =>
      rw [takeRequest_cons hp] at h
      simp only [decodeRequest] at h
      split at h
      · rename_i hq
        split at h <;> rename_i he
        · cases h
          exact .inr ⟨r, rest, _, rfl, hq, he, rfl⟩
        · cases h
        · cases h
      · cases h
  · cases h

/-- A property of states that every operation keeps and that ignores the model's own fields is kept by every
step. -/
theorem step_keeps {P : State → Prop} (hp : ∀ s x, P s → P (s.setPending x))
    (hf : ∀ s x, P s → P (s.setFaults x))
    (he : ∀ i s t, s.params.Valid → exec i s = .next t → P s → P t) (h : step s = .next t) (hs : P s) :
    P t := by
  obtain ⟨hv, ⟨-, rfl⟩ | ⟨r, rest, u, -, -, hu, rfl⟩⟩ := step_cases h
  · exact hs
  · have hu := he _ (s.setPending rest) _ hv hu (hp s rest hs)
    obtain ⟨k, -, hr⟩ | ⟨-, hr⟩ := recordFault_cases r.agent u <;> rw [hr]
    · exact hf _ _ hu
    · exact hu

end Sys2Proof.Machine
end

