-- ==== Sys2Proof/Laws/Terms.lean ====
section
/-! SUPPORT. The model's procedures in the terms of Safety.lean: each procedure equals the state the spec's
numbers give. -/

namespace Sys2Proof.Machine

/-! ## Numbers -/

theorem clamp32_eq_sat32 (n : Nat) : clamp32 n = sat32 n := rfl

theorem satInc_eq_clamp32 (w : Word) : satInc w = clamp32 (w.toNat + 1) := rfl

theorem toNat_ne_zero {n : Nat} {x : BitVec n} (h : x ≠ 0) : x.toNat ≠ 0 := fun h0 =>
  h (BitVec.eq_of_toNat_eq (by simpa using h0))

theorem minIntervalOf_eq (est : Word) (frac : Half) : minIntervalOf est frac = intervalFor est frac := by
  unfold minIntervalOf intervalFor
  by_cases h : est = 0
  · simp [h]
  · rw [if_neg (toNat_ne_zero h), if_neg h]; rfl

theorem alarmDeadline_eq (t : Stamp) (w : Half) :
    alarmDeadline t w = BitVec.ofNat 64 (t.toNat + 1000 * w.toNat) := by
  apply BitVec.eq_of_toNat_eq
  have := w.isLt
  have e : (BitVec.setWidth 64 w).toNat = w.toNat := by simp; omega
  rw [alarmDeadline, BitVec.toNat_add, BitVec.toNat_mul, e]
  simp

theorem halfUs_eq (b : Word) :
    halfUs b = BitVec.ofNat 8 (if b = 0 then 200 else max 5 (min (500000 / b.toNat) 200)) := by
  unfold halfUs
  by_cases h : b = 0
  · simp [h, Config.halfMaxUs]
  · rw [if_neg (toNat_ne_zero h), if_neg h]; rfl

/-! ## Queues -/

section
variable {α : Type} (q : Queue α)

theorem Queue.push_eq_pushed (depth : Nat) (x : α) : q.push depth x = q.pushed depth x := by
  unfold Queue.push Queue.pushed
  split <;> simp [clamp32_eq_sat32, satInc, *]

theorem Queue.pop_eq_popped : q.pop = q.popped := by
  unfold Queue.pop Queue.popped
  split <;> rename_i h <;> simp [h]

end

/-! ## The counter -/

section
variable (s : State) (t : Stamp) (cause : Cause)

theorem Counter.arm_eq_armedAt (cfg : CounterConfig) (c : Counter) : c.arm cfg t = c.armedAt cfg t := by
  rw [Counter.arm_eq]
  simp only [Counter.armedAt, effectiveWindow, alarmDeadline_eq]; rfl

theorem emitResult_eq (hw : s.cnt.windowOpen = true) :
    emitResult cause s = s.emitted (decide (cause = .alarm)) := by
  simp only [emitResult, State.emitted, pushResult, Queue.push_eq_pushed, Counter.afterEmit,
    minIntervalOf_eq]
  have : s.cnt.record s.cntCfg cause = s.windowRecord (decide (cause = .alarm)) := by
    simp only [Counter.record, State.windowRecord, Counter.elapsed, hw, if_true, freqOf]; rfl
  rw [this]; rfl

theorem setCnt_discard_eq :
    s.setCnt ({ s.cnt with alarmPending := false }.discard t) = s.discarded t := by
  rw [Counter.discard_eq]
  simp only [State.discarded, alarmDeadline_eq, Bool.or_false]; rfl

/-- A close emits or discards, by R179's test. -/
theorem closeWindow_eq :
    closeWindow cause t s =
      if s.closeEmits then s.emitted (decide (cause = .alarm)) else s.discarded t := by
  have he : s.cnt.windowOpen = true → (s.cnt.elapsed = 0 ↔ s.cnt.endUs = s.cnt.startUs) := by
    intro h
    simp only [Counter.elapsed, h, if_true]
    exact ⟨fun h => BitVec.sub_eq_iff_eq_add.1 h |>.trans (by simp), fun h => by rw [h]; simp⟩
  rcases closeWindow_cases cause t s with ⟨h1, h2⟩ | ⟨h1, h2, h3, h4⟩ <;> rw [h1]
  · rw [if_neg, setCnt_discard_eq]
    rintro ⟨a, b, c⟩
    rcases h2 with h2 | h2 | h2
    · rw [h2] at a; cases a
    · exact b h2
    · exact c ((he a).1 h2)
  · rw [if_pos ⟨h2, h3, fun h => h4 ((he h2).2 h)⟩]
    exact emitResult_eq (s.setCnt { s.cnt with alarmPending := false }) cause h2

theorem closeWindow_emits (h : s.closeEmits) :
    closeWindow cause t s = s.emitted (decide (cause = .alarm)) := by rw [closeWindow_eq, if_pos h]

theorem closeWindow_discards (h : ¬ s.closeEmits) : closeWindow cause t s = s.discarded t := by
  rw [closeWindow_eq, if_neg h]

variable (ha : s.cnt.armed = true)
include ha

/-- The reference edge (R172). -/
theorem onEdge_reference (hw : s.cnt.windowOpen = false) :
    onEdge t s = s.setCnt ({ s.cnt with raw := satInc s.cnt.raw }.referenceEdge t) :=
  (if_pos ha).trans (if_neg fun h => absurd (hw.symm.trans h) (by decide))

variable (hw : s.cnt.windowOpen = true)
include hw

/-- A glitch (R173). -/
theorem onEdge_glitch
    (hg : s.cnt.edgeSeen = true ∧ t.toNat < s.cnt.endUs.toNat + s.cnt.minInterval.toNat) :
    onEdge t s = s.setCnt { s.cnt with raw := satInc s.cnt.raw, glitch := satInc s.cnt.glitch } := by
  have : ({ s.cnt with raw := satInc s.cnt.raw } : Counter).isGlitch t = true := by
    simpa [Counter.isGlitch] using hg
  exact (if_pos ha).trans ((if_pos hw).trans (if_pos this))

/-- An edge that passes the glitch test (R174). -/
theorem onEdge_qualifies
    (hg : ¬ (s.cnt.edgeSeen = true ∧ t.toNat < s.cnt.endUs.toNat + s.cnt.minInterval.toNat)) :
    onEdge t s = qualifyingEdge t (s.setCnt { s.cnt with raw := satInc s.cnt.raw }) := by
  have : ({ s.cnt with raw := satInc s.cnt.raw } : Counter).isGlitch t = false := by
    simpa [Counter.isGlitch] using hg
  exact (if_pos ha).trans ((if_pos hw).trans (if_neg fun h => absurd (this.symm.trans h) (by decide)))

end

/-! ## The engine -/

theorem Engine.finish_eq_ended (res : SwResult) (dev : Byte) (len : Half) (e : Engine) :
    e.finish res dev len = e.ended res dev len := by
  have : (0 < len.toNat) = (len ≠ 0) :=
    propext ⟨fun h h0 => by rw [h0] at h; simp at h, fun h => Nat.pos_of_ne_zero (toNat_ne_zero h)⟩
  simp only [Engine.finish, Engine.ended, this]
  by_cases h : res = .ok ∧ len ≠ 0
  · simp only [true_or, decide_true, Engine.release, eq_true h]
    simp
  · simp only [h, false_or, Engine.release]
    simp

/-! ## Ticks -/

/-- A TICK with no alarm due: the timebase and the engine. -/
theorem tick_of_not_due (s : State) (h : ¬ s.alarmDue) :
    noResponse (tick s) = s.ticked (s.sw.tick s.params) := by
  simp only [tick, alarmCheck]
  rw [if_neg (by exact h)]
  rfl

/-- The alarm check of a TICK in which the alarm is due. -/
theorem alarmCheck_of_due (s : State) (h : s.alarmDue) :
    alarmCheck (s.setNow (s.nowUs + 1)) = closeWindow .alarm (s.nowUs + 1) (s.setNow (s.nowUs + 1)) :=
  if_pos h

end Sys2Proof.Machine
end

