-- ==== Sys2Proof/Tests/Slice0.lean ====
section
/-! SUPPORT. Tests: ill-formed operations, written-out words, one-step examples of the spec, and for every
statement with hypotheses a concrete state that meets them. -/

namespace Sys2Proof.Tests

open Sys2Proof.Machine

set_option Elab.async false

/-! ## Well-formedness -/

theorem test_wf_swbuf_index_too_large : (Instr.rdSwBuf 16).wellFormed 64 = false := by decide
theorem test_wf_swbuf_write_index_too_large : (Instr.wrSwBuf 2 0).wellFormed 8 = false := by decide
theorem test_wf_unmapped_read_of_register : (Instr.rdUnmapped 0x3C3).wellFormed 64 = false := by
  decide +kernel
theorem test_wf_unmapped_write_of_buffer : (Instr.wrUnmapped 0x10F 0).wellFormed 64 = false := by
  decide +kernel

/-- R54: with BUF_CAP 64 the last word is 15. -/
theorem test_wf_boundaries :
    (Instr.rdSwBuf 15).wellFormed 64 = true ∧ (Instr.rdUnmapped 0x110).wellFormed 64 = true := by
  decide +kernel

/-! ## Decoding: words written out from 30_encoding.md R131 to R135 -/

/-- The data operand the write tests carry. -/
def word : Word := 0xA5C31E87#32

/-- Every word of a list decodes, under BUF_CAP 64, to the operation beside it. -/
def decodesAs (rows : List (Nat × Instr)) : Bool :=
  rows.all fun r => decode 64 (BitVec.ofNat 16 r.1) word == r.2

/-- R135, R31: the words of the CNT group's reads. -/
theorem test_decode_cnt_reads : decodesAs
    [(0x2000, .rdCntCtrl), (0x2004, .rdCntWindow), (0x2008, .rdCntPpm), (0x200C, .rdCntFrac),
     (0x2010, .rdCntStatus), (0x2014, .rdCntCurWindow), (0x2018, .rdCntPulses),
     (0x201C, .rdCntRaw), (0x2020, .rdCntGlitch), (0x2024, .rdCntTarget),
     (0x2028, .rdCntMinInterval), (0x202C, .rdCntEstimate), (0x2030, .rdCntStartLo),
     (0x2034, .rdCntStartHi), (0x2038, .rdCntEndLo), (0x203C, .rdCntEndHi),
     (0x2040, .rdCntAlarmLo), (0x2044, .rdCntAlarmHi)] = true := by decide +kernel

/-- R135, R31: the words of the CNT group's writes. -/
theorem test_decode_cnt_writes : decodesAs
    [(0x6000, .wrCntCtrl word), (0x6004, .wrCntWindow word), (0x6008, .wrCntPpm word),
     (0x600C, .wrCntFrac word), (0x6010, .wrCntStatus word), (0x6014, .wrCntCurWindow word),
     (0x6018, .wrCntPulses word), (0x601C, .wrCntRaw word), (0x6020, .wrCntGlitch word),
     (0x6024, .wrCntTarget word), (0x6028, .wrCntMinInterval word), (0x602C, .wrCntEstimate word),
     (0x6030, .wrCntStartLo word), (0x6034, .wrCntStartHi word), (0x6038, .wrCntEndLo word),
     (0x603C, .wrCntEndHi word), (0x6040, .wrCntAlarmLo word), (0x6044, .wrCntAlarmHi word)] = true := by decide +kernel

/-- R135, R31: the words of the SW group's reads. -/
theorem test_decode_sw_reads : decodesAs
    [(0x2100, .rdSwCtrl), (0x2104, .rdSwStatus), (0x2108, .rdSwBitrate), (0x210C, .rdSwHalf),
     (0x2110, .rdSwAddr), (0x2114, .rdSwLen), (0x2118, .rdSwLast), (0x2400, .rdSwBuf 0),
     (0x2404, .rdSwBuf 1), (0x243C, .rdSwBuf 15)] = true := by decide +kernel

/-- R135, R31: the words of the SW group's writes. -/
theorem test_decode_sw_writes : decodesAs
    [(0x6100, .wrSwCtrl word), (0x6104, .wrSwStatus word), (0x6108, .wrSwBitrate word),
     (0x610C, .wrSwHalf word), (0x6110, .wrSwAddr word), (0x6114, .wrSwLen word),
     (0x6118, .wrSwLast word), (0x6400, .wrSwBuf 0 word), (0x643C, .wrSwBuf 15 word)] = true := by decide +kernel

/-- R135, R31: the words of the CRC group's reads. -/
theorem test_decode_crc_reads : decodesAs
    [(0x2200, .rdCrcCtrl), (0x2204, .rdCrcData), (0x2208, .rdCrcValue)] = true := by decide +kernel

/-- R135, R31: the words of the CRC group's writes. -/
theorem test_decode_crc_writes : decodesAs
    [(0x6200, .wrCrcCtrl word), (0x6204, .wrCrcData word), (0x6208, .wrCrcValue word)] = true := by decide +kernel

/-- R135, R31: the words of the RQ group's reads. -/
theorem test_decode_rq_reads : decodesAs
    [(0x2300, .rdRqStatus), (0x2304, .rdRqCmd), (0x2308, .rdRqOvf), (0x230C, .rdRFlags),
     (0x2310, .rdRPulses), (0x2314, .rdRRaw), (0x2318, .rdRMinInterval), (0x231C, .rdRFreqX1e4),
     (0x2320, .rdRElapsedLo), (0x2324, .rdRElapsedHi), (0x2328, .rdRStartLo),
     (0x232C, .rdRStartHi), (0x2330, .rdREndLo), (0x2334, .rdREndHi)] = true := by decide +kernel

/-- R135, R31: the words of the RQ group's writes. -/
theorem test_decode_rq_writes : decodesAs
    [(0x6300, .wrRqStatus word), (0x6304, .wrRqCmd word), (0x6308, .wrRqOvf word),
     (0x630C, .wrRFlags word), (0x6310, .wrRPulses word), (0x6314, .wrRRaw word),
     (0x6318, .wrRMinInterval word), (0x631C, .wrRFreqX1e4 word), (0x6320, .wrRElapsedLo word),
     (0x6324, .wrRElapsedHi word), (0x6328, .wrRStartLo word), (0x632C, .wrRStartHi word),
     (0x6330, .wrREndLo word), (0x6334, .wrREndHi word)] = true := by decide +kernel

/-- R135, R31: the words of the FQ group's reads. -/
theorem test_decode_fq_reads : decodesAs
    [(0x2380, .rdFqStatus), (0x2384, .rdFqCmd), (0x2388, .rdFqOvf), (0x238C, .rdFqPush),
     (0x2390, .rdFqData)] = true := by decide +kernel

/-- R135, R31: the words of the FQ group's writes. -/
theorem test_decode_fq_writes : decodesAs
    [(0x6380, .wrFqStatus word), (0x6384, .wrFqCmd word), (0x6388, .wrFqOvf word),
     (0x638C, .wrFqPush word), (0x6390, .wrFqData word)] = true := by decide +kernel

/-- R135, R31: the words of the TIME group's reads. -/
theorem test_decode_time_reads : decodesAs
    [(0x2F00, .rdNowLo), (0x2F04, .rdNowHi), (0x2F08, .rdIntEn), (0x2F0C, .rdIntStat)] = true := by decide +kernel

/-- R135, R31: the words of the TIME group's writes. -/
theorem test_decode_time_writes : decodesAs
    [(0x6F00, .wrNowLo word), (0x6F04, .wrNowHi word), (0x6F08, .wrIntEn word),
     (0x6F0C, .wrIntStat word)] = true := by decide +kernel

/-- R132: the eight events. -/
theorem test_decode_events : decodesAs
    [(0x8000, .evTick), (0x8001, .evSigHigh), (0x8002, .evSigLow), (0x8003, .evSyncHigh),
     (0x8004, .evSyncLow), (0x8005, .evSwioHigh), (0x8006, .evSwioLow), (0x8007, .evReset)] = true := by decide +kernel

/-- R134 steps 5 and 6, R401: SIZE before ALIGN. -/
theorem test_decode_bus_errors : decodesAs
    [(0x0000, .rdBuserrSize8 0x000), (0x1010, .rdBuserrSize16 0x010),
     (0x3FFF, .rdBuserrSize64 0xFFF), (0x4F03, .wrBuserrSize8 0xF03 word),
     (0x5010, .wrBuserrSize16 0x010 word), (0x7010, .wrBuserrSize64 0x010 word),
     (0x2011, .rdBuserrAlign1 4), (0x2012, .rdBuserrAlign2 4), (0x2013, .rdBuserrAlign3 4),
     (0x6001, .wrBuserrAlign1 0 word), (0x6FFE, .wrBuserrAlign2 0x3FF word),
     (0x6F0F, .wrBuserrAlign3 0x3C3 word)] = true := by decide +kernel

/-- R101, R134 step 8: the first and last offsets of holes, with BUF_CAP 64. -/
theorem test_decode_unmapped : decodesAs
    [(0x2048, .rdUnmapped 0x012), (0x2440, .rdUnmapped 0x110), (0x2800, .rdUnmapped 0x200),
     (0x2F10, .rdUnmapped 0x3C4), (0x60FC, .wrUnmapped 0x03F word),
     (0x6440, .wrUnmapped 0x110 word), (0x6FFC, .wrUnmapped 0x3FF word)] = true := by decide +kernel

/-- R138, R134 steps 1 to 3. -/
theorem test_decode_reserved : decodesAs
    [(0xC000, .reservedClass 0), (0xFFFF, .reservedClass 0x3FFF), (0x8010, .reservedEvtZ4 0 0),
     (0x8027, .reservedEvtZ5 0 7), (0x8040, .reservedEvtZ6 0 0), (0x8080, .reservedEvtZ7 0 0),
     (0x8100, .reservedEvtZ8 0 0), (0x8200, .reservedEvtZ9 0 0), (0x8400, .reservedEvtZ10 0 0),
     (0x8800, .reservedEvtZ11 0 0), (0x9000, .reservedEvtZ12 0 0), (0xA00F, .reservedEvtZ13 0xF),
     (0xBFF0, .reservedEvtZ4 0x1FF 0), (0x8008, .reservedEvtEv 0), (0x800F, .reservedEvtEv 7)] = true := by decide +kernel
/-- R130: the table's numbering, with the data operand in bits 47:16. -/
theorem test_decode_table_word :
    decodeTableWord 16 0x2010 = some .rdCntStatus ∧ decodeTableWord 16 0x6000 = some (.wrCntCtrl 0) ∧
      decodeTableWord 48 0x00000003_6000 = some (.wrCntCtrl 3) ∧ decodeTableWord 8 0x10 = none := by
  decide +kernel

/-- R139, R140: a line with its agent and a comment, and a pseudo-operation. -/
theorem test_text_lines :
    readText "B: wr CNT_CTRL, 0x3 ; arm" = some [⟨.core .coreB, 0x6000, 3⟩] ∧
      (readText "ppm -25").map (fun l => l.map fun r => (r.desc, r.data)) = some [(0x6008#16, 0xFFE7#32)] ∧
      readText "E: rd SW_BUF[1]" = none := by decide +kernel

/-! ## One step -/

/-- The state an operation leaves, or the state before it where it is refused. -/
def after (i : Instr) (s : State) : State :=
  match exec i s with
  | .next t => t
  | .fault _ | .refused _ => s

/-- The reset state with a live counter. -/
def withCnt (c : Counter) : State := State.reset.setCnt c

/-- The reset state with an engine. -/
def withSw (e : Engine) : State := State.reset.setSw e

/-- The reset state with one request of core A pending. -/
def asking (d : Descriptor) (v : Word) : State := State.reset.setPending [⟨.core .coreA, d, v⟩]

/-- An estimate of 30 kHz (R167's example). -/
def est30k : State := withCnt { Counter.reset with estX1e4 := 300000000#32 }

/-- An armed counter. -/
def armed : Counter := { Counter.reset with armed := true }

/-- An open window: opened at 100 by an edge, one pulse at 110. -/
def opened : Counter :=
  { armed with windowOpen := true, edgeSeen := true, startUs := 100, endUs := 110, pulses := 1, raw := 2,
               windowMs := 1 }

/-- `c` at time 130. -/
def at130 (c : Counter) : State := (withCnt c).setNow 130#64

/-- A RECIP window one pulse below its target of 64. -/
def almost : Counter := { opened with mode := .recip, pulses := 63, raw := 64 }

/-- A result and the queue that holds it. -/
def oneResult : State :=
  State.reset.setRq { State.reset.rq with entries := [{ ResultRec.zero with pulses := 9, elapsedUs := 7 }] }

/-- A full frame queue of depth 4. -/
def fullFrames : State := State.reset.setFq { State.reset.fq with entries := [0x11, 0x22, 0x33, 0x44] }

/-- R160's example. -/
theorem test_wrCntCtrl_arms :
    ((after (.wrCntCtrl 3) (State.reset.setNow 500)).cnt.armed,
      (after (.wrCntCtrl 3) (State.reset.setNow 500)).cnt.target,
      (after (.wrCntCtrl 3) (State.reset.setNow 500)).cnt.alarmPending) = (true, 64#32, false) := by
  decide +kernel

/-- R162's example. -/
theorem test_wrCntWindow_truncates :
    (after (.wrCntWindow 0x12345) State.reset).cntCfg.windowMs = 0x2345#16 := by decide +kernel

/-- R163's example. -/
theorem test_wrCntPpm_signed : (after (.wrCntPpm 0xFFE7) State.reset).cntCfg.ppmX100.toInt = -25 := by
  decide +kernel

/-- R167's example. -/
theorem test_wrCntFrac_recomputes : (after (.wrCntFrac 0x8000) est30k).cnt.minInterval = 16#32 := by
  decide +kernel

/-- R170's example. -/
theorem test_sigHigh_unarmed : (after .evSigHigh State.reset).cnt = { Counter.reset with sigLevel := true } := by
  decide +kernel

/-- R172: the reference edge is raw-counted and is no pulse. -/
theorem test_sigHigh_reference :
    ((after .evSigHigh (at130 armed)).cnt.raw, (after .evSigHigh (at130 armed)).cnt.pulses,
      (after .evSigHigh (at130 armed)).cnt.startUs) = (1#32, 0#32, 130#64) := by decide +kernel

/-- R175's example. -/
theorem test_sigLow_level : (after .evSigLow (at130 { opened with sigLevel := true })).cnt = opened := by
  decide +kernel

/-- R176's example, in part. -/
theorem test_syncHigh_forces :
    ((after .evSyncHigh (at130 armed)).cnt.startUs, (after .evSyncHigh (at130 armed)).cnt.alarmUs,
      (after .evSyncHigh (at130 armed)).cnt.syncForced) = (130#64, 100130#64, true) := by decide +kernel

/-- R166 with R177's numbers: 2 pulses in 20 microseconds are 100 kHz. -/
theorem test_syncLow_emits :
    (after .evSyncLow (at130 { opened with syncLevel := true, pulses := 2, endUs := 120 })).rq.entries.map
      (fun r => (r.pulses, r.elapsedUs, r.freqX1e4, r.timeout)) = [(2#32, 20#64, 1000000000#32, false)] := by
  decide +kernel

/-- R235's example. -/
theorem test_wrSwCtrl_range :
    ((after (.wrSwCtrl 1) (State.reset.setSwCfg { State.reset.swCfg with addr := 0x200 })).sw.result,
      (after (.wrSwCtrl 1) (State.reset.setSwCfg { State.reset.swCfg with addr := 0x200 })).sw.done) =
      (.range, true) := by decide +kernel

/-- R236: a request of 16 bytes at 0x1F8 is clamped to 8. -/
theorem test_wrSwCtrl_clamps :
    (after (.wrSwCtrl 1) (State.reset.setSwCfg { State.reset.swCfg with addr := 0x1F8, len := 16 })).sw.l =
      8#16 := by decide +kernel

/-- R243's example. -/
theorem test_rdSwHalf_follows :
    (after .rdSwHalf (State.reset.setSwCfg { State.reset.swCfg with bitrate := 10000 })).response =
      .data 50#32 := by decide +kernel

/-- R292's examples. -/
theorem test_wrCrcData_examples :
    (after (.wrCrcData 0x100) State.reset).crc = 0xE1F0#16 ∧
      (after (.wrCrcData 0x40) State.reset).crc = 0xA934#16 := by decide +kernel

/-- R324's example: RQ_STATUS after the only record is popped. -/
theorem test_rdRqStatus_after_pop :
    (after .rdRqStatus (after (.wrRqCmd 1) oneResult)).response = .data 0x500#32 := by decide +kernel

/-- R327's example. -/
theorem test_wrFqPush_one : (after .rdFqStatus (after (.wrFqPush 7) State.reset)).response = .data 1#32 := by
  decide +kernel

/-- R331: a push to a full queue evicts the oldest word and is counted. -/
theorem test_wrFqPush_evicts :
    ((after (.wrFqPush 0x55) fullFrames).fq.entries, (after (.wrFqPush 0x55) fullFrames).fq.ovf) =
      ([0x22, 0x33, 0x44, 0x55], 1#32) := by decide +kernel

/-- R360's example: the alarm closes the window in the TICK that reaches it. -/
theorem test_tick_alarm :
    (after .evTick ((withCnt { opened with alarmPending := true, alarmUs := 12000 }).setNow 11999)).rq.entries.map
      (fun r => r.timeout) = [true] := by decide +kernel

/-- R240: a wait counts down once per TICK. -/
theorem test_tick_wait :
    (after .evTick (withSw { State.reset.sw with busy := true, sp := .wStby, wait := 600 })).sw.wait =
      599#32 := by decide +kernel

/-- R380, R381's example. -/
theorem test_wrIntEn_raises : irq0 (after (.wrIntEn 1) oneResult) = true ∧
    irq0 (after (.wrRqCmd 1) (after (.wrIntEn 1) oneResult)) = false := by decide +kernel

/-- R440's example. -/
theorem test_reset_values :
    ((after .evReset (at130 opened)).cntCfg.windowMs, (after .evReset (at130 opened)).crc,
      (after .evReset (at130 opened)).nowUs) = (100#16, 0xFFFF#16, 0#64) := by decide +kernel

/-- R401, R402: a 16-bit read of CNT_STATUS is answered BusError(SIZE) and recorded against its core. -/
theorem test_step_size_error :
    ∃ t, step (asking 0x1010 0) = .next t ∧ t.response = .error .size ∧
      t.faults = [(.core .coreA, .size)] := ⟨_, rfl, rfl, rfl⟩

/-- R475: the environment's bus write and a core's event are no moves; the environment's event is one. -/
theorem test_step_no_move :
    step (State.reset.setPending [⟨.environment, 0x6000, 3⟩]) = .refused .agentHasNoMove ∧
      step (State.reset.setPending [⟨.core .coreB, 0x8000, 0⟩]) = .refused .agentHasNoMove ∧
      ∃ t, step (State.reset.setPending [⟨.environment, 0x8000, 0⟩]) = .next t ∧ t.nowUs = 1 :=
  ⟨rfl, rfl, ⟨_, rfl, by decide +kernel⟩⟩

/-- R303's worked example, with the block's four fields taken from its state. -/
theorem test_frame_worked_example :
    frameFromLatch
      { tsMs := 123456, vUv := 600120, adcGain := 16, syncActive := true, drdyTimeout := false,
        ppsLocked := false, adcSaturated := false }
      (((withCnt { Counter.reset with windowMs := 100 }).setCntCfg
        { State.reset.cntCfg with ppmX100 := 25 }).setRq
        { State.reset.rq with latch := { ResultRec.zero with mode := .recip, freqX1e4 := 300001234 } }) =
      [0x55, 0xAA, 0x13, 0x40, 0xE2, 0x01, 0x00, 0xD2, 0xA7, 0xE1, 0x11, 0x64, 0x00, 0x38, 0x28, 0x09, 0x00,
       0x10, 0x01, 0x19, 0x00, 0x01, 0x1C, 0x9C] := by decide +kernel

/-- The next operation after reset is the one `withFetchWord` places. -/
theorem test_withFetchWord_runs :
    ∃ t, step (State.reset.withFetchWord 48 0x00000003_6000) = .next t ∧ t.cnt.armed = true :=
  ⟨_, rfl, by decide +kernel⟩

/-! ## Witnesses: states that meet the statements' hypotheses

One theorem per statement that has any, named after it, with a state for each clause. -/

theorem test_meets_DecodeInvertsEncode :
    (Instr.rdSwBuf 15).wellFormed 64 = true ∧ (Instr.rdUnmapped 0x110).wellFormed 64 = true ∧
      (Instr.wrUnmapped 0x3FF 5).wellFormed 8 = true ∧ (Instr.wrCntCtrl 3).wellFormed 8 = true := by
  decide +kernel

/-- Both ends of BUF_CAP's range. -/
theorem test_meets_WorkedEncodingsDecode :
    decode 8 0x2404#16 0 = .rdSwBuf 1 ∧ decode 1024 0x2800#16 0 = .rdUnmapped 0x200 := by decide +kernel

/-- Narrow, misaligned and good accesses, at the ends of the descriptor range. -/
theorem test_meets_NarrowOrMisalignedAccessIsBusError :
    let size (d : Descriptor) := d.extractLsb' 12 2
    let low (d : Descriptor) := d.extractLsb' 0 2
    (size 0x0000#16 ≠ 0b10#2 ∧ size 0x7FFF#16 ≠ 0b10#2) ∧
      (size 0x2001#16 = 0b10#2 ∧ low 0x2001#16 ≠ 0 ∧ size 0x6FFF#16 = 0b10#2 ∧ low 0x6FFF#16 ≠ 0) ∧
      (size 0x2000#16 = 0b10#2 ∧ low 0x2000#16 = 0 ∧ size 0x6FFC#16 = 0b10#2 ∧ low 0x6FFC#16 = 0) ∧
      (0x0000#16).getLsbD 15 = false ∧ (0x7FFF#16).getLsbD 15 = false := by decide +kernel

/-- The last mapped and the first unmapped offset around SW_BUF's end and the others. -/
theorem test_meets_UnmappedOffsetsReadZeroIgnoreWrites :
    ([(64, 0x43C, true), (64, 0x440, false), (9, 0x408, true), (9, 0x40C, false), (64, 0x044, true),
      (64, 0x048, false), (64, 0xF0C, true), (64, 0xF10, false), (1024, 0x7FC, true), (1024, 0x800, false),
      (8, 0xFFC, false)].all
        fun r : Nat × Nat × Bool => r.2.1 % 4 == 0 && decide (mappedOffset r.1 r.2.1) == r.2.2) = true := by
  decide +kernel

theorem test_meets_ReservedDescriptorsAreTheOnlyRefusals :
    (reservedDescriptor 0xC000#16 ∧ reservedDescriptor 0x8008#16 ∧ reservedDescriptor 0x8010#16 ∧
      reservedDescriptor 0xA000#16) ∧
      ¬ reservedDescriptor 0x8007#16 ∧ ¬ reservedDescriptor 0x7FFF#16 := by decide +kernel

/-- A core's event and the environment's write are barred; a core's write and the environment's event are not;
an operation with a bus error, one without, and a refused one. -/
theorem test_meets_StepPerformsDecodedOperation :
    State.reset.params.Valid ∧
      ((0x8000#16).extractLsb' 14 2 = 0b10#2 ∧ (0xBFFF#16).extractLsb' 14 2 = 0b10#2) ∧
      ((0x7FFF#16).getLsbD 15 = false ∧ (0x0000#16).getLsbD 15 = false ∧
        (0xC000#16).getLsbD 15 = true ∧ (0xC000#16).extractLsb' 14 2 ≠ 0b10#2) ∧
      (∃ t, exec (decode 64 0x2012#16 0) State.reset = .next t ∧ t.response = .error .align) ∧
      (∃ t, exec (decode 64 0x2010#16 0) State.reset = .next t ∧ t.response = .data 0) ∧
      exec (decode 64 0xC000#16 0) State.reset = .refused .reservedClass :=
  ⟨by decide, by decide, by decide, ⟨_, rfl, rfl⟩, ⟨_, rfl, by decide +kernel⟩, rfl⟩

theorem test_meets_StepWithNothingPendingStays : State.reset.params.Valid ∧ State.reset.pending = [] :=
  ⟨by decide, rfl⟩

/-- Each range of R8, just outside it; and a choice at its ends that is accepted. -/
theorem test_meets_ParametersOutOfRangeAreRejected :
    let p := Config.Params.default
    ([{ p with base := 4095 }, { p with bufCap := 7 }, { p with bufCap := 1025 }, { p with probeLast := 0xA1 },
        { p with probeLast := 0x9E }, { p with probeLast := 0xFF }, { p with tStby := 0 }, { p with tHdr := 0 },
        { p with rqDepth := 0 }, { p with rqDepth := 256 }, { p with fqDepth := 0 },
        { p with fqDepth := 256 }].all fun q => !decide q.Valid) = true ∧
      { p with base := 4096, bufCap := 8, probeLast := 0xA0, tStby := 1, tHdr := 1, rqDepth := 1,
               fqDepth := 255 }.Valid ∧
      { p with bufCap := 1024, probeLast := 0xFE, rqDepth := 255, fqDepth := 1 }.Valid := by decide +kernel

theorem test_meets_StepRecordsBusErrorAgainstIssuer :
    State.reset.params.Valid ∧ (asking 0x1010 0).pending = [⟨.core .coreA, 0x1010, 0⟩] ∧
      (0x1010#16).extractLsb' 12 2 ≠ 0b10#2 ∧ (0x2012#16).extractLsb' 12 2 = 0b10#2 ∧
      (0x2012#16).extractLsb' 0 2 ≠ 0b00#2 := by decide +kernel

/-- An empty and a full queue. -/
theorem test_meets_ReadsQueueStatusFromLengths :
    (State.reset.params.Valid ∧ State.reset.QueueBounds) ∧ fullFrames.QueueBounds ∧
      fullFrames.fq.entries.length = fullFrames.params.fqDepth := by decide +kernel

/-- Both ends of SW_HALF's clamp, and the bitrate 0. -/
theorem test_meets_ReadsSingleWireConfiguration :
    [0#32, 1#32, 2500#32, 100000#32, 0xFFFFFFFF#32].map (fun b => (halfUs b).toNat) = [200, 200, 200, 5, 5] := by
  decide +kernel

theorem test_meets_WriteCntCtrlArms : (1#32).getLsbD 1 = false ∧ (2#32).getLsbD 1 = true := by decide

theorem test_meets_WriteCntWindowTakesEffectAtArm :
    (2#32).getLsbD 1 = true ∧ State.reset.cnt.syncLevel = false := by decide

theorem test_meets_WriteCntFracRecomputesInterval :
    State.reset.cnt.estX1e4 = 0 ∧ est30k.cnt.estX1e4 ≠ 0 := by decide

/-- A busy engine in its standby pulse. -/
def busyState : State := after (.wrSwCtrl 1) (State.reset.setSwCfg { State.reset.swCfg with len := 1 })

theorem test_meets_ReadBackMasksReservedBits : State.reset.sw.busy = false := rfl

theorem test_meets_SingleWireConfigurationStoresUnlessBusy :
    busyState.sw.busy = true ∧ State.reset.sw.busy = false := by decide +kernel

/-- Addresses at the boundary 0x200, and a length that clamps to 0 and to 1. -/
theorem test_meets_SingleWireControlStarts :
    (State.reset.sw.busy = false ∧ (1#32).getLsbD 0 = true ∧ (2#32).getLsbD 0 = false) ∧
      (0x200#16).toNat = 0x200 ∧ min (0#16).toNat (min 64 (0x200 - (0x1FF#16).toNat)) = 0 ∧
      min (0xFFFF#16).toNat (min 64 (0x200 - (0x1FF#16).toNat)) = 1 := by decide +kernel

theorem test_meets_ChecksumInitAndData : (1#32).getLsbD 0 = true ∧ (2#32).getLsbD 0 = false := by decide

theorem test_meets_QueueCommandsPushAndPop :
    (1#32).getLsbD 0 = true ∧ (2#32).getLsbD 0 = false ∧ oneResult.rq.entries ≠ [] := by decide

theorem test_meets_LevelEventsWithoutCountedEdge :
    (at130 { armed with sigLevel := true }).cnt.sigLevel = true ∧
      State.reset.cnt.sigLevel = false ∧ State.reset.cnt.armed = false := by decide

/-- A cold start; an edge 20 after the last one with an interval of 21 and of 20; a RECIP window two pulses
below its target. -/
theorem test_meets_EdgeOpensRejectsOrCounts :
    let glitch (s : State) := s.cnt.edgeSeen = true ∧
      (s.nowUs.toNat : Int) - s.cnt.endUs.toNat < s.cnt.minInterval.toNat
    (armed.sigLevel = false ∧ armed.armed = true ∧ armed.windowOpen = false) ∧
      (opened.sigLevel = false ∧ opened.armed = true ∧ opened.windowOpen = true ∧ opened.mode = .gated) ∧
      glitch (at130 { opened with minInterval := 21 }) ∧ ¬ glitch (at130 { opened with minInterval := 20 }) ∧
      (clamp32 ({ almost with pulses := 62 }.pulses.toNat + 1)).toNat < almost.target.toNat := by
  decide +kernel

/-- The edge that reaches the target, with and without elapsed time. -/
theorem test_meets_RecipTargetClosesWindow :
    (almost.sigLevel = false ∧ almost.armed = true ∧ almost.windowOpen = true ∧ almost.mode = .recip ∧
      almost.target.toNat ≤ (clamp32 (almost.pulses.toNat + 1)).toNat) ∧
      ¬ (almost.edgeSeen = true ∧
        ((at130 almost).nowUs.toNat : Int) - almost.endUs.toNat < almost.minInterval.toNat) ∧
      (at130 almost).nowUs ≠ almost.startUs ∧
      (at130 { almost with startUs := 130, endUs := 130 }).nowUs =
        { almost with startUs := 130, endUs := 130 }.startUs := by decide +kernel

theorem test_meets_SyncRisingForcesWindow :
    (withCnt { armed with syncLevel := true }).cnt.syncLevel = true ∧ State.reset.cnt.syncLevel = false := by
  decide

/-- No window, a window that emits, and one without a pulse. -/
theorem test_meets_SyncFallingClosesWindow :
    (withCnt { armed with syncLevel := true }).cnt.windowOpen = false ∧
      (at130 { opened with syncLevel := true }).closeEmits ∧
      (at130 { opened with syncLevel := true, pulses := 0 }).cnt.windowOpen = true ∧
      ¬ (at130 { opened with syncLevel := true, pulses := 0 }).closeEmits := by decide +kernel

/-- An idle and a busy engine with the alarm one microsecond too far. -/
theorem test_meets_TickAdvancesTimeAndWait :
    ¬ (at130 { armed with alarmPending := true, alarmUs := 132 }).alarmDue ∧ State.reset.sw.busy = false ∧
      ¬ busyState.alarmDue ∧ busyState.sw.busy = true ∧ busyState.sw.wait ≠ 1 := by decide +kernel

/-- An alarm that is just due, on a window that emits and on none. -/
theorem test_meets_TickFiresAlarm :
    let due (c : Counter) := at130 { c with alarmPending := true, alarmUs := 131 }
    (due opened).alarmDue ∧ (due opened).sw.busy = false ∧ (due opened).closeEmits ∧
      (due armed).alarmDue ∧ ¬ (due armed).closeEmits := by decide +kernel

theorem test_meets_TickUnitsAreIndependent : ∃ t, exec .evTick State.reset = .next t := ⟨_, rfl⟩

/-- An engine whose wait expires in the next TICK, at a point and in a phase. -/
def expiring (pt : SeqPoint) (ph : Phase) : State :=
  withSw { busyState.sw with wait := 1, sp := pt, phase := ph, k := 0 }

theorem test_meets_EngineWaitPointsMoveLineAndSample :
    (expiring .wStby .stby).waitExpires ∧ (expiring .wHdr .hdr).waitExpires ∧
      (expiring .wTx1 .start).waitExpires ∧ (expiring .wRx1 .sak1).waitExpires ∧
      (expiring .wRx2 .data).waitExpires := by decide +kernel

/-- The last bit of each kind of byte, and its first. -/
theorem test_meets_EngineSendsBytesMsbFirst :
    ([Phase.start, .devaddr, .cmd, .addrh, .addrl].all fun ph => decide (expiring .wTx2 ph).waitExpires) = true ∧
      (expiring .wTx2 .start).sw.k = 0 ∧
      ((expiring .wTx2 .start).setSw { (expiring .wTx2 .start).sw with k := 7 }).waitExpires := by
  decide +kernel

/-- Every answer of a handshake, and the addresses at which probing goes on and ends. -/
theorem test_meets_EngineHandshakeDecides :
    ([Phase.sak1, .sak2, .sak3, .sak4].all fun ph => decide (expiring .wRx3 ph).waitExpires) = true ∧
      State.reset.params.idleLevel = false ∧ State.reset.params.probeLast.toNat < (0xAE#8).toNat + 2 ∧
      (0xAC#8).toNat + 2 ≤ State.reset.params.probeLast.toNat := by decide +kernel

/-- A data bit, the first and the last of a byte. -/
theorem test_meets_EngineReceivesDataBytes :
    (expiring .wRx3 .data).waitExpires ∧ Memory.wf (expiring .wRx3 .data).sw.buf ∧
      (expiring .wRx3 .data).sw.k = 0 ∧
      ((expiring .wRx3 .data).setSw { (expiring .wRx3 .data).sw with k := 7 }).waitExpires := by decide +kernel

/-- The acknowledge of the last byte of one, and of the first of two. -/
theorem test_meets_EngineAcknowledgesOrFinishes :
    (expiring .wTx2 .mak).waitExpires ∧
      (expiring .wTx2 .mak).sw.l.toNat ≤ (expiring .wTx2 .mak).sw.i.toNat + 1 ∧
      ((0#16).toNat + 1 < { (expiring .wTx2 .mak).sw with l := 2 }.l.toNat) := by decide +kernel

theorem test_meets_ResetRestoresEveryItem : State.reset.params.Valid := by decide

theorem test_meets_StepKeepsInvariants :
    (asking 0x6000 3).Inv ∧ (asking 0x6000 3).nowUs.toNat + 1 < 2 ^ 64 ∧
      ∃ t, step (asking 0x6000 3) = .next t :=
  ⟨⟨by decide +kernel, by decide +kernel, by decide +kernel⟩, by decide +kernel, ⟨_, rfl⟩⟩

/-- An open window and none. -/
theorem test_meets_RawCountAccountsForEveryEdge :
    (opened.RawAccounts ∧ opened.ClosedIsUncounted) ∧ armed.RawAccounts ∧ armed.ClosedIsUncounted ∧
      ∃ t, exec .evSigHigh (at130 opened) = .next t :=
  ⟨by decide +kernel, by decide +kernel, by decide +kernel, ⟨_, rfl⟩⟩

/-- One operation that changes each part. -/
theorem test_meets_OnlyNamedOperationsChangeEachPart :
    (after (.wrCntPpm 5) State.reset).cntCfg ≠ State.reset.cntCfg ∧
      (after .evSigHigh State.reset).cnt ≠ State.reset.cnt ∧
      (after (.wrSwLen 5) State.reset).swCfg ≠ State.reset.swCfg ∧
      (after (.wrSwCtrl 1) State.reset).sw ≠ State.reset.sw ∧
      (after (.wrCrcData 5) State.reset).crc ≠ State.reset.crc ∧
      (after (.wrRqCmd 1) oneResult).rq.entries ≠ oneResult.rq.entries ∧
      (after (.wrRqCmd 1) oneResult).rq.latch ≠ oneResult.rq.latch ∧
      (after (.wrFqPush 5) fullFrames).fq.ovf ≠ fullFrames.fq.ovf ∧
      (after (.wrFqCmd 1) fullFrames).fq.latch ≠ fullFrames.fq.latch ∧
      (after .evTick State.reset).nowUs ≠ State.reset.nowUs ∧
      (after (.wrIntEn 1) State.reset).intEn ≠ State.reset.intEn := by decide +kernel

theorem test_meets_TimebaseAdvancesOnlyByTick :
    State.reset.nowUs.toNat + 1 < 2 ^ 64 ∧ (∃ t, exec .evTick State.reset = .next t) ∧
      ∃ t, exec .evReset State.reset = .next t := ⟨by decide, ⟨_, rfl⟩, ⟨_, rfl⟩⟩

/-- A result that a falling SYNC emits, one the alarm emits, and a pop. -/
theorem test_meets_EmittedResultsHavePulsesAndTime :
    (after .evSyncLow (at130 { opened with syncLevel := true })).rq.entries ≠ [] ∧
      (after .evTick (at130 { opened with alarmPending := true, alarmUs := 131 })).rq.entries ≠ [] ∧
      (after (.wrRqCmd 1) oneResult).rq.entries ≠ oneResult.rq.entries := by decide +kernel

theorem test_meets_EstimateChangesOnlyOnEmit :
    let s := at130 { opened with syncLevel := true }
    (after .evSyncLow s).cnt.estX1e4 ≠ s.cnt.estX1e4 ∧
      (after .evSyncLow s).cnt.minInterval ≠ s.cnt.minInterval ∧
      (after (.wrCntFrac 0x8000) est30k).cnt.minInterval ≠ est30k.cnt.minInterval := by decide +kernel

/-- A request of core A whose bus error is recorded, and one that is refused. -/
theorem test_meets_MastersAreIndistinguishable :
    (asking 0x2012 0).pending = [⟨.core .coreA, 0x2012, 0⟩] ∧ (∃ t, step (asking 0x2012 0) = .next t) ∧
      step (asking 0x8000 0) = .refused .agentHasNoMove := ⟨rfl, ⟨_, rfl⟩, rfl⟩

theorem test_meets_PushesRetainTheNewestWords :
    State.reset.fq.entries = [] ∧ State.reset.fq.ovf = 0 ∧ 1 ≤ State.reset.params.fqDepth := by decide

theorem test_meets_FrameRoundTrip : (List.replicate 19 (0x55#8)).length = 19 := by decide

/-- An alarm 2 microseconds ahead, on a window that emits and on none. -/
theorem test_meets_GatedAlarmFiresOnTime :
    let ahead (c : Counter) := at130 { c with alarmPending := true, alarmUs := 132 }
    ((ahead opened).cnt.armed = true ∧ (ahead opened).cnt.alarmPending = true ∧
      (ahead opened).cnt.alarmUs.toNat = (ahead opened).nowUs.toNat + (1 + 1)) ∧
      (ahead opened).closeEmits ∧ ¬ (ahead armed).closeEmits := by decide +kernel

theorem test_meets_EmptySweepDuration :
    let s := State.reset.setSwCfg { State.reset.swCfg with addr := 0x1FF, len := 1 }
    s.params.Valid ∧ s.sw.busy = false ∧ s.sw.swioIn = s.params.idleLevel ∧ s.swCfg.addr.toNat < 0x200 ∧
      s.swCfg.len ≠ 0 := by decide +kernel

end Sys2Proof.Tests
end

