-- ==== Sys2Proof/Proofs/Scope.lean ====
section
/-! The range check of 00_scope.md R8 and R9. -/

namespace Sys2Proof.Machine

/-- R9: step answers nothing else on a parameter choice that is not valid, whatever is pending. -/
theorem step_of_not_valid {s : State} (h : ¬ s.params.Valid) : step s = .refused .parameterOutOfRange :=
  if_neg h

/-- The bound of R8 on T_STBY_US and T_HDR_US excludes the zero word. -/
theorem word_ne_zero_of_one_le_toNat {w : Word} (h : 1 ≤ w.toNat) : w ≠ 0 := by
  rintro rfl
  exact absurd h (by decide)

/-- Settles O11: each alternative contradicts the bound `Params.Valid` puts on the same parameter. -/
theorem parametersOutOfRangeAreRejected : Obligations.ParametersOutOfRangeAreRejected := by
  intro s hout
  refine step_of_not_valid fun ⟨hbase, ⟨hcapLo, hcapHi⟩, ⟨hprobeEven, hprobeLo, hprobeHi⟩, ⟨hstby, hhdr⟩,
    ⟨hrqLo, hrqHi⟩, ⟨hfqLo, hfqHi⟩⟩ => ?_
  rcases hout with h | h | h | h | h | h | h | h | h | h | h | h
  · exact h hbase
  · exact Nat.not_lt.2 hcapLo h
  · exact Nat.not_lt.2 hcapHi h
  · omega
  · exact Nat.not_lt.2 hprobeLo h
  · exact Nat.not_lt.2 hprobeHi h
  · exact word_ne_zero_of_one_le_toNat hstby h
  · exact word_ne_zero_of_one_le_toNat hhdr h
  · exact Nat.not_lt.2 hrqLo h
  · exact Nat.not_lt.2 hrqHi h
  · exact Nat.not_lt.2 hfqLo h
  · exact Nat.not_lt.2 hfqHi h

end Sys2Proof.Machine
end

section
/-! The invariants of the state: a part written by a setter keeps them when the new part does, and every
operation writes such parts (40_counter.md R185; 10_state.md R72; 41_single_wire.md R240). -/

namespace Sys2Proof.Machine

variable {s t : State}

/-! ## The cases of the counter's operations -/

/-- WR.CNT_CTRL stores MODE, and arms if bit 1 says so (R160). -/
theorem writeCntCtrl_cases (v : Word) (s : State) :
    ∃ cfg, writeCntCtrl v s = s.setCntCfg cfg ∨
      writeCntCtrl v s = (s.setCntCfg cfg).setCnt (s.cnt.arm cfg s.nowUs) :=
  ⟨_, (ite_eq_or_eq _ _ _).symm⟩

/-- SIG_HIGH is an edge or, on a level already high, nothing (R170). -/
theorem sigHigh_cases (s : State) :
    sigHigh s = s ∨ sigHigh s = onEdge s.nowUs (s.setCnt { s.cnt with sigLevel := true }) :=
  ite_eq_or_eq _ _ _

/-- SYNC_HIGH is a restart or, on a level already high, nothing (R176). -/
theorem syncHigh_cases (s : State) :
    syncHigh s = s ∨
      syncHigh s = s.setCnt ({ s.cnt with syncLevel := true }.syncRestart s.cntCfg s.nowUs) :=
  ite_eq_or_eq _ _ _

/-- A falling SYNC closes an armed counter's open window (R177). -/
theorem syncLow_cases (s : State) :
    syncLow s = s ∨ syncLow s = s.setCnt { s.cnt with syncLevel := false } ∨
      s.cnt.armed = true ∧
        syncLow s = closeWindow .sync s.nowUs (s.setCnt { s.cnt with syncLevel := false }) := by
  unfold syncLow
  dsimp only
  split
  · split
    · rename_i ho
      exact .inr (.inr ⟨ho.1, rfl⟩)
    · exact .inr (.inl rfl)
  · exact .inl rfl

/-! ## The pieces of the invariant and of the ranges of R8 -/

theorem rqDepth_pos {p : Config.Params} (h : p.Valid) : 1 ≤ p.rqDepth := by
  obtain ⟨-, -, -, -, hrq, -⟩ := h
  exact hrq.1

theorem fqDepth_pos {p : Config.Params} (h : p.Valid) : 1 ≤ p.fqDepth := by
  obtain ⟨-, -, -, -, -, hfq⟩ := h
  exact hfq.1

theorem State.Inv.counter (h : s.Inv) : s.cnt.Inv s.nowUs := h.1

theorem State.Inv.rq_le (h : s.Inv) : s.rq.entries.length ≤ s.params.rqDepth := h.2.1.1

theorem State.Inv.fq_le (h : s.Inv) : s.fq.entries.length ≤ s.params.fqDepth := h.2.1.2

theorem State.Inv.engine (h : s.Inv) : s.sw.Inv s.params := h.2.2

theorem State.Inv.target_ge (h : s.Inv) : Config.recipMinEdges ≤ s.cnt.target.toNat := by
  obtain ⟨-, -, -, htarget, -⟩ := h.counter
  exact htarget.1

/-! ## Parts of the state -/

theorem State.Inv.setCntCfg (h : s.Inv) (x : CounterConfig) : (s.setCntCfg x).Inv := h

theorem State.Inv.setCnt {c : Counter} (h : s.Inv) (hc : c.Inv s.nowUs) : (s.setCnt c).Inv := ⟨hc, h.2⟩

theorem State.Inv.setSw {e : Engine} (h : s.Inv) (he : e.Inv s.params) : (s.setSw e).Inv :=
  ⟨h.counter, ⟨h.rq_le, h.fq_le⟩, he⟩

theorem State.Inv.setRq {q : Queue ResultRec} (h : s.Inv) (hq : q.entries.length ≤ s.params.rqDepth) :
    (s.setRq q).Inv :=
  ⟨h.counter, ⟨hq, h.fq_le⟩, h.engine⟩

theorem State.Inv.setFq {q : Queue Word} (h : s.Inv) (hq : q.entries.length ≤ s.params.fqDepth) :
    (s.setFq q).Inv :=
  ⟨h.counter, ⟨h.rq_le, hq⟩, h.engine⟩

/-- What a close or an edge may leave: the counter and the result queue are new, and each has its invariant. -/
theorem State.Inv.of_same (h : s.Inv) (hs : SameButCounter s t) (hc : t.cnt.Inv s.nowUs)
    (hq : t.rq.entries.length ≤ s.params.rqDepth) : t.Inv := by
  obtain ⟨-, ⟨-, hfq⟩, hsw⟩ := h
  refine ⟨hs.nowUs ▸ hc, ⟨?_, ?_⟩, ?_⟩
  · rwa [hs.params]
  · rwa [hs.params, hs.fq]
  · rwa [hs.params, hs.sw]

/-- The counter's invariants speak of time only as a bound on the window's end, so they outlast a TICK. -/
theorem Counter.Inv.mono {c : Counter} {now later : Stamp} (h : c.Inv now) (hle : now.toNat ≤ later.toNat) :
    c.Inv later :=
  ⟨fun ho => (h.1 ho).imp_right (And.imp_right (·.trans hle)), h.2⟩

theorem State.Inv.setNow {x : Stamp} (h : s.Inv) (hle : s.nowUs.toNat ≤ x.toNat) : (s.setNow x).Inv :=
  ⟨h.counter.mono hle, h.2⟩

/-- A TICK that does not wrap moves the time on (R361). -/
theorem toNat_add_one_of_no_wrap {x : Stamp} (h : x.toNat + 1 < 2 ^ 64) : (x + 1).toNat = x.toNat + 1 := by
  rw [BitVec.toNat_add, show (1 : Stamp).toNat = 1 from rfl, Nat.mod_eq_of_lt h]

/-! ## The counter's procedures keep the invariants -/

/-- A close of an armed counter. -/
theorem State.Inv.closeWindow (h : s.Inv) (hd : 1 ≤ s.params.rqDepth) (ha : s.cnt.armed = true)
    (cause : Cause) (t : Stamp) : (closeWindow cause t s).Inv :=
  h.of_same (closeWindow_same _ _ _) (closeWindow_inv _ _ _ _ ha h.target_ge)
    (closeWindow_rq_le _ _ _ hd h.rq_le)

theorem qualifyingEdge_rq_le (t : Stamp) (s : State) (hd : 1 ≤ s.params.rqDepth)
    (h : s.rq.entries.length ≤ s.params.rqDepth) :
    (qualifyingEdge t s).rq.entries.length ≤ s.params.rqDepth := by
  rcases qualifyingEdge_cases t s with ⟨-, -, he⟩ | ⟨-, he⟩ <;> rw [he]
  · exact closeWindow_rq_le _ _ (s.setCnt _) hd h
  · exact h

theorem onEdge_rq_le (t : Stamp) (s : State) (hd : 1 ≤ s.params.rqDepth)
    (h : s.rq.entries.length ≤ s.params.rqDepth) :
    (onEdge t s).rq.entries.length ≤ s.params.rqDepth := by
  rcases onEdge_cases t s with ⟨-, he⟩ | ⟨-, -, he⟩ | ⟨-, -, -, he⟩ | ⟨-, -, -, he⟩ <;> rw [he]
  · exact h
  · exact h
  · exact h
  · exact qualifyingEdge_rq_le _ (s.setCnt _) hd h

theorem State.Inv.onEdge (h : s.Inv) (hd : 1 ≤ s.params.rqDepth) : (onEdge s.nowUs s).Inv :=
  h.of_same (onEdge_same _ _) (onEdge_inv s h.counter) (onEdge_rq_le _ _ hd h.rq_le)

theorem State.Inv.alarmCheck (h : s.Inv) (hd : 1 ≤ s.params.rqDepth) : (alarmCheck s).Inv := by
  rcases alarmCheck_cases s with ⟨ha, -, -, he⟩ | ⟨-, he⟩ <;> rw [he]
  · exact h.closeWindow hd ha _ _
  · exact h

theorem State.Inv.writeCntCtrl (h : s.Inv) (v : Word) : (writeCntCtrl v s).Inv := by
  obtain ⟨cfg, he | he⟩ := writeCntCtrl_cases v s <;> rw [he]
  · exact h.setCntCfg _
  · exact (h.setCntCfg _).setCnt (Counter.arm_inv _ _ _ _)

theorem State.Inv.writeCntFrac (h : s.Inv) (v : Word) : (writeCntFrac v s).Inv :=
  (h.setCntCfg _).setCnt h.counter

theorem State.Inv.sigHigh (h : s.Inv) (hd : 1 ≤ s.params.rqDepth) : (sigHigh s).Inv := by
  obtain he | he := sigHigh_cases s <;> rw [he]
  · exact h
  · exact State.Inv.onEdge (s := s.setCnt _) (h.setCnt h.counter) hd

theorem State.Inv.syncHigh (h : s.Inv) : (syncHigh s).Inv := by
  obtain he | he := syncHigh_cases s <;> rw [he]
  · exact h
  · exact h.setCnt (Counter.syncRestart_inv _ _ _)

theorem State.Inv.syncLow (h : s.Inv) (hd : 1 ≤ s.params.rqDepth) : (syncLow s).Inv := by
  have hlow : (s.setCnt { s.cnt with syncLevel := false }).Inv := h.setCnt h.counter
  obtain he | he | ⟨ha, he⟩ := syncLow_cases s <;> rw [he]
  · exact h
  · exact hlow
  · exact hlow.closeWindow hd ha _ _

/-! ## The engine's register and the TICK -/

/-- WR.SW_CTRL clears or keeps DONE, and then may start a transaction (R235). -/
theorem writeSwCtrl_cases (p : Config.Params) (cfg : EngineConfig) (v : Word) (e : Engine) :
    ∃ d, writeSwCtrl p cfg v e = { e with done := d } ∨
      writeSwCtrl p cfg v e = ({ e with done := d }).startTransaction p cfg := by
  refine ⟨!vBit1 v && e.done, ?_⟩
  have hclr : (if vBit1 v then { e with done := false } else e : Engine) =
      { e with done := !vBit1 v && e.done } := by
    cases vBit1 v <;> rfl
  unfold writeSwCtrl
  rw [hclr]
  exact (ite_eq_or_eq _ _ _).symm

theorem writeSwCtrl_inv {p : Config.Params} {e : Engine} (h : e.Inv p) (hp : p.Valid) (cfg : EngineConfig)
    (v : Word) : (writeSwCtrl p cfg v e).Inv p := by
  obtain ⟨d, he | he⟩ := writeSwCtrl_cases p cfg v e <;> rw [he]
  · exact h
  · exact Engine.startTransaction_inv cfg h hp

/-- Time, the alarm and the engine in turn (R360). -/
theorem State.Inv.tick (h : s.Inv) (hp : s.params.Valid) (hn : s.nowUs.toNat + 1 < 2 ^ 64) :
    (tick s).Inv := by
  have hd : 1 ≤ s.params.rqDepth := rqDepth_pos hp
  have htime : (s.setNow (s.nowUs + 1)).Inv := h.setNow (by rw [toNat_add_one_of_no_wrap hn]; omega)
  have halarm := htime.alarmCheck hd
  have hpar : (Machine.alarmCheck (s.setNow (s.nowUs + 1))).params.Valid := by
    rw [(alarmCheck_same _).params]; exact hp
  exact halarm.setSw (Engine.tick_inv halarm.engine hpar)

/-! ## Every operation -/

/-- Reset leaves nothing open, queued or running. -/
theorem State.Inv.reset (p : Config.Params) : (State.resetWith p).Inv := by
  refine ⟨⟨?_, ?_, ?_, ⟨?_, ?_⟩, ?_⟩, ⟨Nat.zero_le _, Nat.zero_le _⟩, ?_⟩
  · exact nofun
  · exact fun _ => ⟨rfl, rfl, rfl, rfl, rfl, rfl⟩
  · exact nofun
  · exact Nat.le_refl 64
  · exact nofun
  · exact nofun
  · exact ⟨rfl, rfl, nofun, fun _ => ⟨rfl, rfl⟩, ⟨.nil, nofun⟩, nofun⟩

theorem Effect.inv {i : Instr} {u : State} (he : Effect s i u) (h : s.Inv) (hp : s.params.Valid)
    (hn : s.nowUs.toNat + 1 < 2 ^ 64) : u.Inv := by
  have hrd := rqDepth_pos hp
  cases he with
  | quiet => exact h
  | cntCtrl v => exact h.writeCntCtrl v
  | cntWindow | cntPpm => exact h.setCntCfg _
  | cntFrac v => exact h.writeCntFrac v
  | sigHigh => exact h.sigHigh hrd
  | sigLow => exact h.setCnt h.counter
  | syncHigh => exact h.syncHigh
  | syncLow => exact h.syncLow hrd
  | swCtrl v => exact h.setSw (writeSwCtrl_inv h.engine hp _ v)
  | swioHigh | swioLow => exact h.setSw h.engine
  | rqPop => exact h.setRq (Queue.pop_length_le _ _ h.rq_le)
  | rqOvf => exact h.setRq h.rq_le
  | fqPop => exact h.setFq (Queue.pop_length_le _ _ h.fq_le)
  | fqOvf => exact h.setFq h.fq_le
  | fqPush v => exact h.setFq (Queue.push_length_le _ _ _ (fqDepth_pos hp) h.fq_le)
  | tick => exact h.tick hp hn
  | reset => exact State.Inv.reset s.params
  | swBitrate | swAddr | swLen | crcInit | crcData | intEn => exact h

theorem exec_inv {i : Instr} (h : s.Inv) (hp : s.params.Valid) (hn : s.nowUs.toNat + 1 < 2 ^ 64)
    (he : exec i s = .next t) : t.Inv := by
  obtain ⟨u, r, hu, rfl⟩ := exec_effect he
  exact hu.inv h hp hn

theorem State.Inv.recordFault (h : s.Inv) (a : Agent) : (recordFault a s).Inv := by
  rcases recordFault_cases a s with ⟨k, -, he⟩ | ⟨-, he⟩ <;> rw [he] <;> exact h

/-- Settles O47: a step answers the state as it is, or the first pending operation's next state with a
fault recorded. -/
theorem stepKeepsInvariants : Obligations.StepKeepsInvariants := by
  intro s t h hn hstep
  obtain ⟨hp, ⟨-, rfl⟩ | ⟨r, rest, u, -, -, hu, rfl⟩⟩ := step_cases hstep
  · exact h
  · exact (exec_inv (s := s.setPending rest) h hp hn hu).recordFault r.agent

end Sys2Proof.Machine
end

section
/-! Which operation may change which part of the state, and how the frequency estimate moves
(10_state.md R30; 40_counter.md R164, R167, R181; 41_single_wire.md R240, R241; 43_queues.md R321). -/

namespace Sys2Proof.Machine

variable {s t u : State} {i : Instr}

/-! ## The counter's operations leave the rest of the state alone -/

theorem Counter.arm_estimate (cfg : CounterConfig) (t : Stamp) (c : Counter) :
    (c.arm cfg t).estX1e4 = c.estX1e4 ∧ (c.arm cfg t).minInterval = c.minInterval := by
  rw [Counter.arm_eq]
  exact ⟨rfl, rfl⟩

theorem writeCntCtrl_eq (v : Word) (s : State) :
    ∃ cfg c, writeCntCtrl v s = (s.setCntCfg cfg).setCnt c ∧ c.estX1e4 = s.cnt.estX1e4 ∧
      c.minInterval = s.cnt.minInterval := by
  obtain ⟨cfg, h | h⟩ := writeCntCtrl_cases v s
  · exact ⟨cfg, s.cnt, h, rfl, rfl⟩
  · exact ⟨cfg, _, h, Counter.arm_estimate _ _ _⟩

theorem syncHigh_eq (s : State) :
    ∃ c, syncHigh s = s.setCnt c ∧ c.estX1e4 = s.cnt.estX1e4 ∧ c.minInterval = s.cnt.minInterval := by
  obtain h | h := syncHigh_cases s
  · exact ⟨s.cnt, h, rfl, rfl⟩
  · exact ⟨_, h, Counter.arm_estimate s.cntCfg s.nowUs { s.cnt with syncLevel := true }⟩

theorem syncHigh_same (s : State) : SameButCounter s (syncHigh s) := by
  obtain ⟨c, h, -⟩ := syncHigh_eq s
  rw [h]
  exact .setCnt s c

theorem sigHigh_same (s : State) : SameButCounter s (sigHigh s) := by
  obtain h | h := sigHigh_cases s <;> rw [h]
  · exact .refl s
  · exact (SameButCounter.setCnt s _).trans (onEdge_same _ _)

theorem syncLow_same (s : State) : SameButCounter s (syncLow s) := by
  obtain h | h | ⟨-, h⟩ := syncLow_cases s <;> rw [h]
  · exact .refl s
  · exact .setCnt s _
  · exact (SameButCounter.setCnt s _).trans (closeWindow_same _ _ _)

/-- A TICK is a close or nothing on the state one microsecond later, and then a tick of the engine (R360). -/
theorem tick_eq (s : State) :
    ∃ v, SameButCounter (s.setNow (s.nowUs + 1)) v ∧ tick s = v.setSw (s.sw.tick s.params) := by
  have hs := alarmCheck_same (s.setNow (s.nowUs + 1))
  refine ⟨_, hs, ?_⟩
  simp only [tick, hs.sw, hs.params, State.setNow_sw, State.setNow_params]

/-- The parts of the state that only their own registers write. -/
structure SameOwnParts (s t : State) : Prop where
  params : t.params = s.params
  pending : t.pending = s.pending
  faults : t.faults = s.faults
  swCfg : t.swCfg = s.swCfg
  crc : t.crc = s.crc
  fq : t.fq = s.fq
  intEn : t.intEn = s.intEn
  latch : t.rq.latch = s.rq.latch
  valid : t.rq.valid = s.rq.valid

theorem SameButCounter.own (h : SameButCounter s t) : SameOwnParts s t :=
  ⟨h.params, h.pending, h.faults, h.swCfg, h.crc, h.fq, h.intEn, h.latch, h.valid⟩

theorem tick_own (s : State) : SameOwnParts s (tick s) := by
  obtain ⟨v, hv, he⟩ := tick_eq s
  rw [he]
  exact ⟨hv.params, hv.pending, hv.faults, hv.swCfg, hv.crc, hv.fq, hv.intEn, hv.latch, hv.valid⟩

theorem writeCntCtrl_own (v : Word) (s : State) : SameOwnParts s (writeCntCtrl v s) := by
  obtain ⟨cfg, c, h, -⟩ := writeCntCtrl_eq v s
  rw [h]
  exact ⟨rfl, rfl, rfl, rfl, rfl, rfl, rfl, rfl, rfl⟩

/-! ## The data buffer (R241) -/

section
variable (p : Config.Params) (e : Engine)

@[simp] theorem Engine.finish_buf (res : SwResult) (dev : Byte) (len : Half) :
    (e.finish res dev len).buf = e.buf := by rw [Engine.finish_eq]

@[simp] theorem Engine.beginTxBit_buf (x : Bool) : (e.beginTxBit x).buf = e.buf := rfl

@[simp] theorem Engine.beginTxByte_buf (ph : Phase) (b : Byte) : (e.beginTxByte ph b).buf = e.buf := rfl

@[simp] theorem Engine.beginRxBit_buf : e.beginRxBit.buf = e.buf := rfl

@[simp] theorem Engine.beginRxByte_buf (i : Half) : (e.beginRxByte i).buf = e.buf := rfl

@[simp] theorem Engine.beginSak_buf (ph : Phase) : (e.beginSak ph).buf = e.buf := rfl

@[simp] theorem Engine.beginAttempt_buf : (e.beginAttempt p).buf = e.buf := rfl

@[simp] theorem Engine.nextAddress_buf : (e.nextAddress p).buf = e.buf := by
  unfold Engine.nextAddress; split <;> simp

@[simp] theorem Engine.afterTxByte_buf : e.afterTxByte.buf = e.buf := by
  unfold Engine.afterTxByte; split <;> simp

@[simp] theorem Engine.afterSak_buf : (e.afterSak p).buf = e.buf := by
  unfold Engine.afterSak; split <;> simp

@[simp] theorem Engine.handshake_buf (a : RxBit) : (e.handshake p a).buf = e.buf := by
  cases a <;> simp [Engine.handshake]

@[simp] theorem Engine.afterMak_buf : e.afterMak.buf = e.buf := by
  unfold Engine.afterMak; split <;> simp

@[simp] theorem Engine.afterTxBit_buf : e.afterTxBit.buf = e.buf := by
  unfold Engine.afterTxBit
  cases e.phase with
  | mak => simp
  | start | devaddr | cmd | addrh | addrl => dsimp only; split <;> simp
  | _ => rfl

@[simp] theorem Engine.startTransaction_buf (cfg : EngineConfig) :
    (e.startTransaction p cfg).buf = e.buf := by
  obtain ⟨-, h⟩ | ⟨-, -, h⟩ | ⟨-, -, h⟩ := Engine.startTransaction_cases p cfg e <;> rw [h] <;> simp

@[simp] theorem writeSwCtrl_buf (cfg : EngineConfig) (v : Word) : (writeSwCtrl p cfg v e).buf = e.buf := by
  obtain ⟨d, h | h⟩ := writeSwCtrl_cases p cfg v e <;> rw [h]
  exact Engine.startTransaction_buf p _ cfg

/-- The buffer is as before, or the byte in progress has been stored in the data phase. -/
def Engine.KeepsOrStores (e f : Engine) : Prop :=
  f.buf = e.buf ∨ e.phase = .data ∧ ∃ b, f.buf = Memory.write e.buf e.i.toNat b

theorem Engine.storeBit_buf (b : Bool) :
    (e.storeBit b).buf = e.buf ∨ ∃ x, (e.storeBit b).buf = Memory.write e.buf e.i.toNat x := by
  unfold Engine.storeBit
  dsimp only
  split
  · exact .inr ⟨_, rfl⟩
  · exact .inl rfl

theorem Engine.afterDataBit_buf (a : RxBit) (hd : e.phase = .data) : e.KeepsOrStores (e.afterDataBit a) := by
  cases a
  case zero | one => exact (e.storeBit_buf _).imp_right (⟨hd, ·⟩)
  case idle | error => exact .inl (e.finish_buf _ _ _)

theorem Engine.afterRxBit_buf : e.KeepsOrStores (e.afterRxBit p) := by
  unfold Engine.afterRxBit
  cases hd : e.phase with
  | data => exact e.afterDataBit_buf _ hd
  | sak1 | sak2 | sak3 | sak4 => exact .inl (e.handshake_buf p _)
  | _ => exact .inl rfl

/-- Of the points a process resumes at, only the end of a received bit may store a byte. -/
theorem Engine.resume_buf : e.KeepsOrStores (e.resume p) := by
  unfold Engine.resume
  cases e.sp with
  | wTx2 => exact .inl e.afterTxBit_buf
  | wRx3 => exact e.afterRxBit_buf p
  | _ => exact .inl rfl

theorem Engine.tick_buf : (e.tick p).buf = e.buf ∨
    e.busy = true ∧ e.phase = .data ∧ ∃ b, (e.tick p).buf = Memory.write e.buf e.i.toNat b := by
  obtain ⟨-, h⟩ | ⟨hb, -, h⟩ | ⟨-, -, h⟩ := Engine.tick_cases p e <;> rw [h]
  · exact .inl rfl
  · exact (Engine.resume_buf p { e with wait := 0 }).imp_right (⟨hb, ·⟩)
  · exact .inl rfl

/-- A TICK changes no byte but the one a busy engine is receiving. -/
theorem Engine.tick_read {a : Nat} (h : Memory.read (e.tick p).buf a ≠ Memory.read e.buf a) :
    e.busy = true ∧ e.phase = .data ∧ a = e.i.toNat := by
  obtain he | ⟨hb, hd, b, he⟩ := Engine.tick_buf p e <;> rw [he] at h
  · exact absurd rfl h
  · exact ⟨hb, hd, by_contra fun ha => h (Memory.read_write_other _ _ ha)⟩

end

/-! ## Part by part -/

/-- The effects on the parts that only their own registers write. -/
inductive OwnWrite (s : State) : Instr → State → Prop where
  | swCfg {i : Instr} (x : EngineConfig) (v : Word) (hb : s.sw.busy = false)
      (hi : i ∈ [Instr.wrSwBitrate v, .wrSwAddr v, .wrSwLen v]) : OwnWrite s i (s.setSwCfg x)
  | crc {i : Instr} (x : Half) (v : Word) (hi : i ∈ [Instr.wrCrcCtrl v, .wrCrcData v]) :
      OwnWrite s i (s.setCrc x)
  | rqPop (v : Word) (hv : v.getLsbD 0 = true) : OwnWrite s (.wrRqCmd v) (s.setRq s.rq.pop)
  | fqPop (v : Word) (hv : v.getLsbD 0 = true) : OwnWrite s (.wrFqCmd v) (s.setFq s.fq.pop)
  | fqOvf (v : Word) : OwnWrite s (.wrFqOvf v) (s.setFq s.fq.clearOvf)
  | fqPush (v : Word) : OwnWrite s (.wrFqPush v) (s.setFq (s.fq.push s.params.fqDepth v))
  | intEn (v : Word) : OwnWrite s (.wrIntEn v) (s.setIntEn (vLow3 v))

section
variable (he : Effect s i u) (hr : i ≠ .evReset)
include he hr

theorem Effect.own_cases : SameOwnParts s u ∨ OwnWrite s i u := by
  cases he with
  | swBitrate v hb => exact .inr (.swCfg _ v hb (by simp))
  | swAddr v hb => exact .inr (.swCfg _ v hb (by simp))
  | swLen v hb => exact .inr (.swCfg _ v hb (by simp))
  | crcInit v => exact .inr (.crc _ v (by simp))
  | crcData v => exact .inr (.crc _ v (by simp))
  | rqPop v hv => exact .inr (.rqPop v hv)
  | fqPop v hv => exact .inr (.fqPop v hv)
  | fqOvf v => exact .inr (.fqOvf v)
  | fqPush v => exact .inr (.fqPush v)
  | intEn v => exact .inr (.intEn v)
  | cntCtrl v => exact .inl (writeCntCtrl_own v s)
  | sigHigh => exact .inl (sigHigh_same s).own
  | syncHigh => exact .inl (syncHigh_same s).own
  | syncLow => exact .inl (syncLow_same s).own
  | tick => exact .inl (tick_own s)
  | reset => exact absurd rfl hr
  | _ => exact .inl ⟨rfl, rfl, rfl, rfl, rfl, rfl, rfl, rfl, rfl⟩

theorem Effect.fixed_kept : u.params = s.params ∧ u.pending = s.pending ∧ u.faults = s.faults := by
  rcases he.own_cases hr with h | h
  · exact ⟨h.params, h.pending, h.faults⟩
  · cases h <;> exact ⟨rfl, rfl, rfl⟩

theorem Effect.swCfg_changed (hc : u.swCfg ≠ s.swCfg) :
    s.sw.busy = false ∧ ∃ v, i ∈ [Instr.wrSwBitrate v, .wrSwAddr v, .wrSwLen v] := by
  rcases he.own_cases hr with h | h
  · exact absurd h.swCfg hc
  · cases h with
    | swCfg x v hb hi => exact ⟨hb, v, hi⟩
    | _ => exact absurd rfl hc

theorem Effect.crc_changed (hc : u.crc ≠ s.crc) : ∃ v, i ∈ [Instr.wrCrcCtrl v, .wrCrcData v] := by
  rcases he.own_cases hr with h | h
  · exact absurd h.crc hc
  · cases h with
    | crc x v hi => exact ⟨v, hi⟩
    | _ => exact absurd rfl hc

theorem Effect.intEn_changed (hc : u.intEn ≠ s.intEn) : ∃ v, i = .wrIntEn v := by
  rcases he.own_cases hr with h | h
  · exact absurd h.intEn hc
  · cases h with
    | intEn v => exact ⟨v, rfl⟩
    | _ => exact absurd rfl hc

theorem Effect.rq_latch_changed (hc : u.rq.latch ≠ s.rq.latch ∨ u.rq.valid ≠ s.rq.valid) :
    ∃ v, i = .wrRqCmd v ∧ v.getLsbD 0 = true := by
  rcases he.own_cases hr with h | h
  · exact absurd hc (by simp [h.latch, h.valid])
  · cases h with
    | rqPop v hv => exact ⟨v, rfl, hv⟩
    | _ => exact absurd hc (by simp)

/-- The frame queue is popped, cleared of its count, pushed to, or kept (R321). -/
theorem Effect.fq_cases :
    u.fq = s.fq ∨ (∃ v, i = .wrFqCmd v ∧ v.getLsbD 0 = true ∧ u.fq = s.fq.pop) ∨
      (∃ v, i = .wrFqOvf v ∧ u.fq = s.fq.clearOvf) ∨
      ∃ v, i = .wrFqPush v ∧ u.fq = s.fq.push s.params.fqDepth v := by
  rcases he.own_cases hr with h | h
  · exact .inl h.fq
  · cases h with
    | fqPop v hv => exact .inr (.inl ⟨v, rfl, hv, rfl⟩)
    | fqOvf v => exact .inr (.inr (.inl ⟨v, rfl, rfl⟩))
    | fqPush v => exact .inr (.inr (.inr ⟨v, rfl, rfl⟩))
    | _ => exact .inl rfl

theorem Effect.fq_entries_changed (hc : u.fq.entries ≠ s.fq.entries) :
    ∃ v, i ∈ [Instr.wrFqCmd v, .wrFqPush v] := by
  obtain h | ⟨v, rfl, -, -⟩ | ⟨v, -, h⟩ | ⟨v, rfl, -⟩ := he.fq_cases hr
  · exact absurd (congrArg Queue.entries h) hc
  · exact ⟨v, by simp⟩
  · exact absurd (congrArg Queue.entries h) hc
  · exact ⟨v, by simp⟩

theorem Effect.fq_latch_changed (hc : u.fq.latch ≠ s.fq.latch ∨ u.fq.valid ≠ s.fq.valid) :
    ∃ v, i = .wrFqCmd v ∧ v.getLsbD 0 = true := by
  obtain h | ⟨v, rfl, hv, -⟩ | ⟨v, -, h⟩ | ⟨v, -, h⟩ := he.fq_cases hr
  · exact absurd hc (by simp [h])
  · exact ⟨v, rfl, hv⟩
  · exact absurd hc (by simp [h])
  · exact absurd hc (by simp [h])

theorem Effect.fq_ovf_changed (hc : u.fq.ovf ≠ s.fq.ovf) : ∃ v, i ∈ [Instr.wrFqOvf v, .wrFqPush v] := by
  obtain h | ⟨v, -, -, h⟩ | ⟨v, rfl, -⟩ | ⟨v, rfl, -⟩ := he.fq_cases hr
  · exact absurd (congrArg Queue.ovf h) hc
  · exact absurd (by rw [h, Queue.pop_ovf]) hc
  · exact ⟨v, by simp⟩
  · exact ⟨v, by simp⟩

theorem Effect.cntCfg_changed (hc : u.cntCfg ≠ s.cntCfg) :
    ∃ v, i ∈ [Instr.wrCntCtrl v, .wrCntWindow v, .wrCntPpm v, .wrCntFrac v] := by
  cases he with
  | cntCtrl v | cntWindow v | cntPpm v | cntFrac v => exact ⟨v, by simp⟩
  | sigHigh => exact absurd (sigHigh_same s).cntCfg hc
  | syncHigh => exact absurd (syncHigh_same s).cntCfg hc
  | syncLow => exact absurd (syncLow_same s).cntCfg hc
  | tick => exact absurd (alarmCheck_same (s.setNow _)).cntCfg hc
  | reset => exact absurd rfl hr
  | _ => exact absurd rfl hc

theorem Effect.cnt_changed (hc : u.cnt ≠ s.cnt) :
    ∃ v, i ∈ [Instr.wrCntCtrl v, .wrCntFrac v, .evTick, .evSigHigh, .evSigLow, .evSyncHigh, .evSyncLow] := by
  cases he with
  | cntCtrl v | cntFrac v => exact ⟨v, by simp⟩
  | sigHigh | sigLow | syncHigh | syncLow | tick => exact ⟨0, by simp⟩
  | reset => exact absurd rfl hr
  | _ => exact absurd rfl hc

theorem Effect.sw_changed (hc : u.sw ≠ s.sw) :
    ∃ v, i ∈ [Instr.wrSwCtrl v, .evTick, .evSwioHigh, .evSwioLow] := by
  cases he with
  | swCtrl v => exact ⟨v, by simp⟩
  | tick | swioHigh | swioLow => exact ⟨0, by simp⟩
  | cntCtrl v =>
    obtain ⟨cfg, c, h, -⟩ := writeCntCtrl_eq v s
    exact absurd (by rw [h]; rfl) hc
  | sigHigh => exact absurd (sigHigh_same s).sw hc
  | syncHigh => exact absurd (syncHigh_same s).sw hc
  | syncLow => exact absurd (syncLow_same s).sw hc
  | reset => exact absurd rfl hr
  | _ => exact absurd rfl hc

/-- Of the operations that write the engine only a TICK reaches the buffer. -/
theorem Effect.buf_changed {a : Nat} (hc : Memory.read u.sw.buf a ≠ Memory.read s.sw.buf a) :
    i = .evTick ∧ s.sw.busy = true ∧ s.sw.phase = .data ∧ a = s.sw.i.toNat := by
  obtain ⟨v, hi⟩ := he.sw_changed hr fun h => hc (by rw [h])
  simp only [List.mem_cons, List.not_mem_nil, or_false] at hi
  obtain rfl | rfl | rfl | rfl := hi
  case inl =>
    cases he with
    | swCtrl v => exact absurd (by rw [State.setSw_sw, writeSwCtrl_buf]) hc
    | quiet => exact absurd rfl hc
  case inr.inl =>
    cases he with
    | tick =>
      obtain ⟨w, -, h⟩ := tick_eq s
      rw [h] at hc
      exact ⟨rfl, Engine.tick_read _ _ hc⟩
    | quiet => exact absurd rfl hc
  all_goals cases he <;> exact absurd rfl hc

theorem Effect.nowUs_changed (hc : u.nowUs ≠ s.nowUs) : i = .evTick := by
  cases he with
  | tick => rfl
  | cntCtrl v =>
    obtain ⟨cfg, c, h, -⟩ := writeCntCtrl_eq v s
    exact absurd (by rw [h]; rfl) hc
  | sigHigh => exact absurd (sigHigh_same s).nowUs hc
  | syncHigh => exact absurd (syncHigh_same s).nowUs hc
  | syncLow => exact absurd (syncLow_same s).nowUs hc
  | reset => exact absurd rfl hr
  | _ => exact absurd rfl hc

/-- The result queue is popped, cleared of its count, pushed to by a close, or kept (R321, R322). -/
theorem Effect.rq_cases :
    u.rq = s.rq ∨ (∃ v, i = .wrRqCmd v ∧ u.rq = s.rq.pop) ∨ (∃ v, i = .wrRqOvf v ∧ u.rq = s.rq.clearOvf) ∨
      i ∈ [Instr.evTick, .evSigHigh, .evSyncLow] := by
  cases he with
  | rqPop v => exact .inr (.inl ⟨v, rfl, rfl⟩)
  | rqOvf v => exact .inr (.inr (.inl ⟨v, rfl, rfl⟩))
  | tick | sigHigh | syncLow => exact .inr (.inr (.inr (by simp)))
  | cntCtrl v =>
    obtain ⟨cfg, c, h, -⟩ := writeCntCtrl_eq v s
    exact .inl (by rw [h]; rfl)
  | syncHigh =>
    obtain ⟨c, h, -⟩ := syncHigh_eq s
    exact .inl (by rw [h]; rfl)
  | reset => exact absurd rfl hr
  | _ => exact .inl rfl

theorem Effect.rq_entries_changed (hc : u.rq.entries ≠ s.rq.entries) :
    ∃ v, i ∈ [Instr.wrRqCmd v, .evTick, .evSigHigh, .evSyncLow] := by
  obtain h | ⟨v, rfl, -⟩ | ⟨v, -, h⟩ | h := he.rq_cases hr
  · exact absurd (congrArg Queue.entries h) hc
  · exact ⟨v, by simp⟩
  · exact absurd (congrArg Queue.entries h) hc
  · exact ⟨0, List.mem_cons_of_mem _ h⟩

theorem Effect.rq_ovf_changed (hc : u.rq.ovf ≠ s.rq.ovf) :
    ∃ v, i ∈ [Instr.wrRqOvf v, .evTick, .evSigHigh, .evSyncLow] := by
  obtain h | ⟨v, -, h⟩ | ⟨v, rfl, -⟩ | h := he.rq_cases hr
  · exact absurd (congrArg Queue.ovf h) hc
  · exact absurd (by rw [h, Queue.pop_ovf]) hc
  · exact ⟨v, by simp⟩
  · exact ⟨0, List.mem_cons_of_mem _ h⟩

end

/-- Settles O50, part by part: the response an operation leaves is no part the statement names. -/
theorem onlyNamedOperationsChangeEachPart : Obligations.OnlyNamedOperationsChangeEachPart := by
  intro i s t hexec hr
  obtain ⟨u, r, he, rfl⟩ := exec_effect hexec
  obtain ⟨hparams, hpending, hfaults⟩ := he.fixed_kept hr
  exact ⟨hparams, hpending, hfaults, he.cntCfg_changed hr, he.cnt_changed hr, he.swCfg_changed hr,
    he.sw_changed hr, fun _ => he.buf_changed hr, he.crc_changed hr, he.rq_entries_changed hr,
    he.rq_latch_changed hr, he.rq_ovf_changed hr, he.fq_entries_changed hr, he.fq_latch_changed hr,
    he.fq_ovf_changed hr, he.nowUs_changed hr, he.intEn_changed hr⟩

end Sys2Proof.Machine
end

section
/-! The frequency estimate moves only when a close emits a result (40_counter.md R164, R167, R181). -/

namespace Sys2Proof.Machine

variable {s t u : State} {i : Instr}

/-- The estimate and the interval derived from it are as before. -/
structure KeepsEstimate (s t : State) : Prop where
  est : t.cnt.estX1e4 = s.cnt.estX1e4
  minInterval : t.cnt.minInterval = s.cnt.minInterval

/-- An armed counter became idle with `r` pushed on the result queue, whose frequency is the new estimate
(R181). -/
structure EmitsRecord (r : ResultRec) (s t : State) : Prop where
  wasArmed : s.cnt.armed = true
  idle : t.cnt.armed = false
  rq : t.rq = s.rq.push s.params.rqDepth r
  est : t.cnt.estX1e4 = r.freqX1e4
  minInterval : t.cnt.minInterval = minIntervalOf r.freqX1e4 s.cntCfg.frac

/-- What the counter's procedures do to the estimate. -/
def EstimateByEmit (s t : State) : Prop := KeepsEstimate s t ∨ ∃ r, EmitsRecord r s t

/-- A procedure that starts on a changed counter, but with the estimate and ARMED as they were. -/
theorem EstimateByEmit.of_setCnt {c : Counter} (h : EstimateByEmit (s.setCnt c) t)
    (ha : c.armed = s.cnt.armed) (he : c.estX1e4 = s.cnt.estX1e4)
    (hm : c.minInterval = s.cnt.minInterval) : EstimateByEmit s t := by
  obtain hk | ⟨r, hr⟩ := h
  · exact .inl ⟨hk.est.trans he, hk.minInterval.trans hm⟩
  · exact .inr ⟨r, ha.symm.trans hr.wasArmed, hr.idle, hr.rq, hr.est, hr.minInterval⟩

theorem EstimateByEmit.refl (s : State) : EstimateByEmit s s := .inl ⟨rfl, rfl⟩

theorem emitResult_estimate (cause : Cause) (ha : s.cnt.armed = true) :
    EstimateByEmit s (emitResult cause s) :=
  .inr ⟨s.cnt.record s.cntCfg cause, ha, rfl, rfl, rfl, rfl⟩

theorem closeWindow_estimate (cause : Cause) (t : Stamp) (ha : s.cnt.armed = true) :
    EstimateByEmit s (closeWindow cause t s) := by
  obtain ⟨h, -⟩ | ⟨h, -⟩ := closeWindow_cases cause t s <;> rw [h]
  · rw [Counter.discard_eq]
    exact .inl ⟨rfl, rfl⟩
  · exact .of_setCnt (emitResult_estimate cause ha) rfl rfl rfl

theorem qualifyingEdge_estimate (t : Stamp) (ha : s.cnt.armed = true) :
    EstimateByEmit s (qualifyingEdge t s) := by
  obtain ⟨-, -, h⟩ | ⟨-, h⟩ := qualifyingEdge_cases t s <;> rw [h]
  · exact .of_setCnt (closeWindow_estimate .target t ha) rfl rfl rfl
  · exact .inl ⟨rfl, rfl⟩

theorem onEdge_estimate (t : Stamp) (s : State) : EstimateByEmit s (onEdge t s) := by
  obtain ⟨-, h⟩ | ⟨-, -, h⟩ | ⟨-, -, -, h⟩ | ⟨ha, -, -, h⟩ := onEdge_cases t s <;> rw [h]
  · exact .refl s
  · exact .inl ⟨rfl, rfl⟩
  · exact .inl ⟨rfl, rfl⟩
  · exact .of_setCnt (qualifyingEdge_estimate t ha) rfl rfl rfl

theorem alarmCheck_estimate (s : State) : EstimateByEmit s (alarmCheck s) := by
  obtain ⟨ha, -, -, h⟩ | ⟨-, h⟩ := alarmCheck_cases s <;> rw [h]
  · exact closeWindow_estimate _ _ ha
  · exact .refl s

theorem sigHigh_estimate (s : State) : EstimateByEmit s (sigHigh s) := by
  obtain h | h := sigHigh_cases s <;> rw [h]
  · exact .refl s
  · exact .of_setCnt (onEdge_estimate _ _) rfl rfl rfl

theorem syncLow_estimate (s : State) : EstimateByEmit s (syncLow s) := by
  obtain h | h | ⟨ha, h⟩ := syncLow_cases s <;> rw [h]
  · exact .refl s
  · exact .inl ⟨rfl, rfl⟩
  · exact .of_setCnt (closeWindow_estimate .sync _ ha) rfl rfl rfl

/-- The alarm check alone touches the counter in a TICK. -/
theorem tick_estimate (s : State) : EstimateByEmit s (tick s) := by
  obtain hk | ⟨r, hr⟩ := alarmCheck_estimate (s.setNow (s.nowUs + 1))
  · exact .inl ⟨hk.est, hk.minInterval⟩
  · exact .inr ⟨r, hr.wasArmed, hr.idle, hr.rq, hr.est, hr.minInterval⟩

/-- Besides a close, only WR.CNT_FRAC moves the minimum interval, and it keeps the estimate (R167). -/
theorem Effect.estimate_cases (he : Effect s i u) (hr : i ≠ .evReset) :
    EstimateByEmit s u ∨ u.cnt.estX1e4 = s.cnt.estX1e4 ∧ ∃ v, i = .wrCntFrac v := by
  cases he with
  | cntFrac v => exact .inr ⟨rfl, v, rfl⟩
  | cntCtrl v =>
    obtain ⟨cfg, c, h, hest, hmin⟩ := writeCntCtrl_eq v s
    exact .inl (.inl (by rw [h]; exact ⟨hest, hmin⟩))
  | syncHigh =>
    obtain ⟨c, h, hest, hmin⟩ := syncHigh_eq s
    exact .inl (.inl (by rw [h]; exact ⟨hest, hmin⟩))
  | sigHigh => exact .inl (sigHigh_estimate s)
  | syncLow => exact .inl (syncLow_estimate s)
  | tick => exact .inl (tick_estimate s)
  | reset => exact absurd rfl hr
  | _ => exact .inl (.inl ⟨rfl, rfl⟩)

/-- The entry just pushed is the newest. -/
theorem Queue.push_getLast? {α : Type} (depth : Nat) (q : Queue α) (x : α) :
    (q.push depth x).entries.getLast? = some x := by
  rw [Queue.push_entries, List.getLast?_concat]

/-- Settles O53: the record pushed by the emit is the newest result, and where nothing was emitted neither
the estimate nor, but for WR.CNT_FRAC, the interval has changed. -/
theorem estimateChangesOnlyOnEmit : Obligations.EstimateChangesOnlyOnEmit := by
  intro i s t hexec hr emits
  obtain ⟨u, x, he, rfl⟩ := exec_effect hexec
  obtain (hk | ⟨r, hem⟩) | ⟨hest, hfrac⟩ := he.estimate_cases hr
  · exact ⟨fun h => absurd hk.est h, fun h => absurd hk.minInterval h⟩
  · have hnew : u.rq.entries.getLast? = some r := by rw [hem.rq, Queue.push_getLast?]
    have hlen : u.rq.entries.length ≠ 0 := fun h0 => by simp [List.length_eq_zero_iff.1 h0] at hnew
    have hemits : emits :=
      ⟨r, hnew, hlen, hem.est, hem.minInterval.trans (minIntervalOf_eq _ _), hem.idle, hem.wasArmed⟩
    exact ⟨fun _ => hemits, fun _ => .inl hemits⟩
  · exact ⟨fun h => absurd hest h, fun _ => .inr hfrac⟩

end Sys2Proof.Machine
end

section
/-! What the registers read: the fields of their images, bit by bit and part by part
(10_state.md R32 to R69; 44_timebase_irq.md R370). -/

namespace Sys2Proof.Machine

/-! ## Fields of an image -/

/-- A read's next state, from the image it answers. -/
theorem next_answer {v w : Word} (h : v = w) (s : State) :
    (.next (answer v s) : Host.Outcome State Fault Refusal) = .next { s with response := .data w } := by
  rw [h]; rfl

/-! ### One bit of an image -/

theorem bitAt_false (n : Nat) : bitAt n false = 0 := by simp [bitAt]

theorem getLsbD_bitAt_same {n : Nat} (b : Bool) (hn : n < 32) : (bitAt n b).getLsbD n = b := by
  rw [getLsbD_bitAt _ _ _ hn, decide_eq_true rfl, Bool.true_and]

theorem getLsbD_bitAt_of_ne {n i : Nat} (b : Bool) (hn : n < 32) (h : i ≠ n) :
    (bitAt n b).getLsbD i = false := by
  rw [getLsbD_bitAt _ _ _ hn, decide_eq_false h, Bool.false_and]

theorem getLsbD_fieldAt_apart {w n i : Nat} (x : BitVec w) (h : i < n ∨ n + w ≤ i) :
    (fieldAt n x).getLsbD i = false := by
  have hout : ¬ (n ≤ i ∧ i - n < w) := by omega
  rw [getLsbD_fieldAt, Bool.and_assoc (decide _), ← Bool.decide_and, decide_eq_false hout]
  simp

/-! ### A range of bits of an image -/

theorem extractLsb'_fieldAt_same {w n : Nat} (x : BitVec w) (h : n + w ≤ 32) :
    (fieldAt n x).extractLsb' n w = x := by
  apply BitVec.eq_of_getLsbD_eq
  intro i hi
  rw [BitVec.getLsbD_extractLsb', getLsbD_fieldAt, Nat.add_sub_cancel_left]
  simp [hi]
  omega

theorem extractLsb'_fieldAt_apart {w n m k : Nat} (x : BitVec w) (h : m + k ≤ n ∨ n + w ≤ m) :
    (fieldAt n x).extractLsb' m k = 0#k := by
  apply BitVec.eq_of_getLsbD_eq
  intro i hi
  rw [BitVec.getLsbD_extractLsb', getLsbD_fieldAt_apart x (by omega), Bool.and_false, BitVec.getLsbD_zero]

/-- A one-bit field is a field of width 1. -/
theorem extractLsb'_bitAt_apart {n m k : Nat} (b : Bool) (h : m + k ≤ n ∨ n + 1 ≤ m) :
    (bitAt n b).extractLsb' m k = 0#k :=
  extractLsb'_fieldAt_apart (BitVec.ofBool b) h

theorem Mode.bit_eq (m : Mode) : m.bit = decide (m = .recip) := by cases m <;> rfl

/-! ## The counter -/

theorem cntCtrlImage_eq (s : State) : cntCtrlImage s = if s.cntCfg.mode = .recip then 1 else 0 := by
  rw [cntCtrlImage]
  cases s.cntCfg.mode <;> decide

/-- Settles O13: MODE by its two cases, the other fields at bit 0. -/
theorem readsCounterConfiguration : Obligations.ReadsCounterConfiguration := fun s =>
  ⟨next_answer (cntCtrlImage_eq s) s, next_answer (fieldAt_zero _) s, next_answer (fieldAt_zero _) s,
    next_answer (fieldAt_zero _) s⟩

theorem cntStatusImage_above (s : State) {n : Nat} (h : 8 ≤ n) : (cntStatusImage s).getLsbD n = false := by
  simp (disch := omega) only [cntStatusImage, BitVec.getLsbD_or, getLsbD_bitAt_of_ne, Bool.or_false]

/-- Every flag of CNT_STATUS is 0 after reset. -/
theorem cntStatusImage_reset (p : Config.Params) : cntStatusImage (State.resetWith p) = 0 := by
  simp [cntStatusImage, State.resetWith, Counter.reset, Mode.bit, bitAt_false]

/-- Settles O14: each flag has a bit of its own. -/
theorem readsCounterStatusBits : Obligations.ReadsCounterStatusBits := by
  refine ⟨rfl, fun _ _ => rfl, fun s => ⟨cntStatusImage s, rfl, ?_⟩,
    fun p => next_answer (cntStatusImage_reset p) _⟩
  refine ⟨?_, ?_, ?_, ?_, ?_, ?_, ?_, ?_, fun n hn => cntStatusImage_above s hn⟩
  all_goals
    simp (disch := omega) only [cntStatusImage, Mode.bit_eq, BitVec.getLsbD_or, getLsbD_bitAt_same,
      getLsbD_bitAt_of_ne, Bool.or_false, Bool.false_or]

/-- Settles O15: each 64-bit time is made up of its two halves. -/
theorem readsLiveCounter : Obligations.ReadsLiveCounter := fun s =>
  ⟨next_answer (fieldAt_zero _) s, rfl, rfl, rfl, rfl, rfl, rfl, ⟨_, _, rfl, rfl, toNat_hi32_lo32 _⟩,
    ⟨_, _, rfl, rfl, toNat_hi32_lo32 _⟩, ⟨_, _, rfl, rfl, toNat_hi32_lo32 _⟩⟩

/-! ## The single-wire engine -/

/-- SW_HALF in exact integers (R50, R232). -/
theorem swHalfImage_toNat (s : State) :
    (swHalfImage s).toNat =
      if s.swCfg.bitrate.toNat = 0 then 200 else max 5 (min (500000 / s.swCfg.bitrate.toNat) 200) := by
  rw [swHalfImage, fieldAt_zero, BitVec.toNat_setWidth_of_le (by decide), halfUs_toNat]

/-- Settles O16: SW_HALF by its number, 0 apart. -/
theorem readsSingleWireConfiguration : Obligations.ReadsSingleWireConfiguration := by
  intro s
  refine ⟨rfl, next_answer (fieldAt_zero _) s, next_answer (fieldAt_zero _) s, fun h0 => ?_,
    fun h => ⟨swHalfImage s, rfl, ?_⟩⟩
  · refine next_answer (BitVec.eq_of_toNat_eq ?_) s
    rw [swHalfImage_toNat, h0]
    rfl
  · rw [swHalfImage_toNat, if_neg (toNat_ne_zero h)]

theorem swStatusImage_result (s : State) : (swStatusImage s).extractLsb' 2 2 = s.sw.result.code := by
  simp (disch := omega) only [swStatusImage, BitVec.extractLsb'_or, extractLsb'_fieldAt_same,
    extractLsb'_fieldAt_apart, extractLsb'_bitAt_apart, BitVec.zero_or, BitVec.or_zero]

/-- Settles O17: each flag and each field has its place, and the reserved bits lie apart from all. -/
theorem readsSingleWireStatusBits : Obligations.ReadsSingleWireStatusBits := by
  refine fun s => ⟨⟨swStatusImage s, rfl, ?_, ?_, ?_, ?_, ?_, ?_⟩, ⟨swLastImage s, rfl, ?_, ?_, ?_, ?_⟩⟩
  case refine_3 =>
    rw [swStatusImage_result]
    cases s.sw.result <;> rfl
  all_goals
    simp (disch := omega) only [swStatusImage, swLastImage, BitVec.getLsbD_or, BitVec.extractLsb'_or,
      getLsbD_bitAt_same, getLsbD_bitAt_of_ne, getLsbD_fieldAt_apart, extractLsb'_fieldAt_same,
      extractLsb'_fieldAt_apart, extractLsb'_bitAt_apart, BitVec.zero_or, BitVec.or_zero, Bool.or_false,
      Bool.false_or, BitVec.ofNat_eq_ofNat]

/-- Settles O18: byte `k` of the word is the `k`th of its four fields. -/
theorem readsDataBufferLittleEndian : Obligations.ReadsDataBufferLittleEndian := by
  intro s j
  refine ⟨swBufImage j s, rfl, fun k hk => ?_⟩
  change _ = swBufByte s (4 * j.toNat + k)
  rw [swBufImage]
  interval_cases k
  all_goals
    simp (disch := omega) only [BitVec.extractLsb'_or, extractLsb'_fieldAt_same, extractLsb'_fieldAt_apart,
      Nat.reduceMul, Nat.add_zero, BitVec.zero_or, BitVec.or_zero]

/-! ## The queues -/

section
variable {α : Type} {depth : Nat} {q : Queue α}

/-- COUNT holds every length up to a depth of 255 (R333). -/
theorem queueStatus_count (hd : depth ≤ 255) (hq : q.entries.length ≤ depth) :
    ((queueStatus depth q).extractLsb' 0 8).toNat = q.entries.length := by
  have hcount : (queueStatus depth q).extractLsb' 0 8 = BitVec.ofNat 8 q.entries.length := by
    simp (disch := omega) only [queueStatus, BitVec.extractLsb'_or, extractLsb'_fieldAt_same,
      extractLsb'_bitAt_apart, BitVec.or_zero]
  rw [hcount, BitVec.toNat_ofNat, Nat.mod_eq_of_lt (by omega)]

/-- EMPTY, FULL, VALID and the reserved bits above them. -/
theorem queueStatus_flags [Decidable (q.entries = [])] :
    (queueStatus depth q).getLsbD 8 = decide (q.entries = []) ∧
      (queueStatus depth q).getLsbD 9 = decide (q.entries.length = depth) ∧
      (queueStatus depth q).getLsbD 10 = q.valid ∧
      ∀ n, 11 ≤ n → (queueStatus depth q).getLsbD n = false := by
  have hempty : (q.entries.length == 0) = decide (q.entries = []) := by
    rw [Bool.eq_iff_iff, beq_iff_eq, decide_eq_true_iff, List.length_eq_zero_iff]
  rw [← hempty, ← beq_eq_decide]
  refine ⟨?_, ?_, ?_, fun n hn => ?_⟩
  all_goals
    simp (disch := omega) only [queueStatus, BitVec.getLsbD_or, getLsbD_bitAt_same, getLsbD_bitAt_of_ne,
      getLsbD_fieldAt_apart, Bool.or_false, Bool.false_or]

end

/-- Settles O20: both status registers have the one layout, under depths the ranges of R8 bound. -/
theorem readsQueueStatusFromLengths : Obligations.ReadsQueueStatusFromLengths := by
  rintro s ⟨-, -, -, -, hrd, hfd⟩ ⟨hrq, hfq⟩
  exact ⟨⟨rqStatusImage s, rfl, queueStatus_count hrd.2 hrq, queueStatus_flags⟩,
    ⟨fqStatusImage s, rfl, queueStatus_count hfd.2 hfq, queueStatus_flags⟩⟩

/-- R_FLAGS has its three flags and 0 above them (R61). -/
theorem rFlagsImage_bits (s : State) :
    (rFlagsImage s).getLsbD 0 = decide (s.rq.latch.mode = .recip) ∧
      (rFlagsImage s).getLsbD 1 = s.rq.latch.syncForced ∧ (rFlagsImage s).getLsbD 2 = s.rq.latch.timeout ∧
      ∀ n, 3 ≤ n → (rFlagsImage s).getLsbD n = false := by
  refine ⟨?_, ?_, ?_, fun n hn => ?_⟩
  all_goals
    simp (disch := omega) only [rFlagsImage, Mode.bit_eq, BitVec.getLsbD_or, getLsbD_bitAt_same,
      getLsbD_bitAt_of_ne, Bool.or_false, Bool.false_or]

/-- Settles O21: the latch's fields, its flags bit by bit and its times by their halves. -/
theorem readsResultLatchAndOverflows : Obligations.ReadsResultLatchAndOverflows := fun s =>
  ⟨rfl, rfl, rfl, ⟨rFlagsImage s, rfl, rFlagsImage_bits s⟩, rfl, rfl, rfl, rfl,
    ⟨_, _, rfl, rfl, toNat_hi32_lo32 _⟩, ⟨_, _, rfl, rfl, toNat_hi32_lo32 _⟩,
    ⟨_, _, rfl, rfl, toNat_hi32_lo32 _⟩⟩

/-! ## Checksum, timebase and interrupts -/

/-- INT_STAT has its three conditions and 0 above them (R69). -/
theorem intStatImage_bits (s : State) :
    (intStatImage s).getLsbD 0 = decide (s.rq.entries ≠ []) ∧
      (intStatImage s).getLsbD 1 = decide (s.fq.entries ≠ []) ∧ (intStatImage s).getLsbD 2 = s.sw.done ∧
      ∀ n, 3 ≤ n → (intStatImage s).getLsbD n = false := by
  simp only [← List.length_pos_iff]
  refine ⟨?_, ?_, ?_, fun n hn => ?_⟩
  all_goals
    simp (disch := omega) only [intStatImage, rqNotEmpty, fqNotEmpty, BitVec.getLsbD_or, getLsbD_bitAt_same,
      getLsbD_bitAt_of_ne, Bool.or_false, Bool.false_or]

/-- Settles O22: the enables do not enter INT_STAT's image. -/
theorem readsChecksumTimebaseInterrupts : Obligations.ReadsChecksumTimebaseInterrupts := fun s =>
  ⟨next_answer (fieldAt_zero _) s, ⟨_, _, rfl, rfl, toNat_hi32_lo32 _⟩, next_answer (fieldAt_zero _) s,
    ⟨intStatImage s, rfl, intStatImage_bits s⟩⟩

end Sys2Proof.Machine
end

section
/-! The bus accesses and the step that takes them (20_memory.md R102, R103, R106, R111; 60_exceptions.md R401;
70_reset_and_hazards.md R475, R476). -/

namespace Sys2Proof.Machine

variable {s : State}

/-! ## The class of a descriptor -/

/-- Bit 15 is the upper bit of the class, 0 in the two classes of bus accesses (R130). -/
theorem getLsbD_15_eq_false_iff (d : Descriptor) :
    d.getLsbD 15 = false ↔ descClass d = 0b00#2 ∨ descClass d = 0b01#2 := by
  have hbit : d.getLsbD 15 = (descClass d).getLsbD 1 := by simp [descClass]
  rw [hbit]
  generalize descClass d = c
  revert c
  decide

theorem decode_of_read {d : Descriptor} (cap : Nat) (v : Word) (h : descClass d = 0b00#2) :
    decode cap d v = decodeBusRead cap d := by
  simp [decode, h]

theorem decode_of_write {d : Descriptor} (cap : Nat) (v : Word) (h : descClass d = 0b01#2) :
    decode cap d v = decodeBusWrite cap d v := by
  simp [decode, h]

/-! ## Accesses that are narrow or misaligned (R401) -/

theorem exec_decodeReadSize (size : BitVec 2) (off : Offset) (s : State) :
    exec (decodeReadSize size off) s = .next (raiseBusError .size s) := by
  unfold decodeReadSize
  split_ifs <;> rfl

theorem exec_decodeWriteSize (size : BitVec 2) (off : Offset) (v : Word) (s : State) :
    exec (decodeWriteSize size off v) s = .next (raiseBusError .size s) := by
  unfold decodeWriteSize
  split_ifs <;> rfl

theorem exec_decodeReadAlign (low : BitVec 2) (w : BitVec 10) (s : State) :
    exec (decodeReadAlign low w) s = .next (raiseBusError .align s) := by
  unfold decodeReadAlign
  split_ifs <;> rfl

theorem exec_decodeWriteAlign (low : BitVec 2) (w : BitVec 10) (v : Word) (s : State) :
    exec (decodeWriteAlign low w v) s = .next (raiseBusError .align s) := by
  unfold decodeWriteAlign
  split_ifs <;> rfl

/-! ## Aligned 32-bit accesses -/

/-- Every register of the read table answers a word. -/
theorem exec_fixedRead {n : Nat} {i : Instr} (h : fixedRead n = some i) (s : State) :
    ∃ w, exec i s = .next (answer w s) := by
  unfold fixedRead at h
  split at h <;> cases h <;> exact ⟨_, rfl⟩

/-- Every register of the write table acknowledges its write. -/
theorem exec_fixedWrite {n : Nat} {v : Word} {i : Instr} (h : fixedWrite n v = some i) (s : State) :
    ∃ u, exec i s = .next (acknowledge u) := by
  unfold fixedWrite at h
  split at h <;> cases h <;> exact ⟨_, rfl⟩

/-- An aligned read answers a word and changes nothing else: a register's, the buffer's or 0 (R134, R375). -/
theorem exec_decodeRead (cap : Nat) (off : Offset) (s : State) :
    ∃ w, exec (decodeRead cap off) s = .next (answer w s) := by
  unfold decodeRead
  cases hreg : fixedRead off.toNat with
  | some i => exact exec_fixedRead hreg s
  | none => dsimp only; split_ifs <;> exact ⟨_, rfl⟩

/-- An aligned write is acknowledged, whether it has an effect or is ignored (R134, R375). -/
theorem exec_decodeWrite (cap : Nat) (off : Offset) (v : Word) (s : State) :
    ∃ u, exec (decodeWrite cap off v) s = .next (acknowledge u) := by
  unfold decodeWrite
  cases hreg : fixedWrite off.toNat v with
  | some i => exact exec_fixedWrite hreg s
  | none => dsimp only; split_ifs <;> exact ⟨_, rfl⟩

/-! ## Every bus access -/

/-- What a bus access comes to when an aligned 32-bit one would leave `t`: SIZE is tested before ALIGN
(R134 steps 5 and 6). -/
def accessResult (d : Descriptor) (s t : State) : State :=
  if descSize d ≠ 0b10#2 then raiseBusError .size s
  else if d.extractLsb' 0 2 ≠ 0b00#2 then raiseBusError .align s
  else t

theorem exec_decodeBusRead (cap : Nat) (d : Descriptor) (s : State) :
    ∃ w, exec (decodeBusRead cap d) s = .next (accessResult d s (answer w s)) := by
  obtain ⟨w, hw⟩ := exec_decodeRead cap (descOff d) s
  refine ⟨w, ?_⟩
  unfold decodeBusRead accessResult
  split_ifs
  · exact exec_decodeReadSize _ _ s
  · exact exec_decodeReadAlign _ _ s
  · exact hw

theorem exec_decodeBusWrite (cap : Nat) (d : Descriptor) (v : Word) (s : State) :
    ∃ u, exec (decodeBusWrite cap d v) s = .next (accessResult d s (acknowledge u)) := by
  obtain ⟨u, hu⟩ := exec_decodeWrite cap (descOff d) v s
  refine ⟨u, ?_⟩
  unfold decodeBusWrite accessResult
  split_ifs
  · exact exec_decodeWriteSize _ _ v s
  · exact exec_decodeWriteAlign _ _ v s
  · exact hu

/-- A bus access always answers a next state, and only SIZE and ALIGN make it a bus error. -/
theorem exec_access {d : Descriptor} (h : d.getLsbD 15 = false) (cap : Nat) (v : Word) (s : State) :
    ∃ t, exec (decode cap d v) s = .next (accessResult d s t) ∧ ∀ k, t.response ≠ .error k := by
  obtain hc | hc := (getLsbD_15_eq_false_iff d).1 h
  · obtain ⟨w, hw⟩ := exec_decodeBusRead cap d s
    exact ⟨answer w s, decode_of_read cap v hc ▸ hw, nofun⟩
  · obtain ⟨u, hu⟩ := exec_decodeBusWrite cap d v s
    exact ⟨acknowledge u, decode_of_write cap v hc ▸ hu, nofun⟩

/-- Settles O4: the three clauses are the three branches of `accessResult`. -/
theorem narrowOrMisalignedAccessIsBusError : Obligations.NarrowOrMisalignedAccessIsBusError := by
  intro cap d v s hd
  obtain ⟨t, hexec, ht⟩ := exec_access hd cap v s
  unfold accessResult descSize at hexec
  refine ⟨fun hsize => ?_, fun hsize hlow => ?_, fun hsize hlow => ⟨t, ?_, ht⟩⟩
  · rw [hexec, if_pos hsize]; rfl
  · rw [hexec, if_neg (not_not.2 hsize), if_pos hlow]; rfl
  · rw [hexec, if_neg (not_not.2 hsize), if_neg (not_not.2 hlow)]

/-! ## The step -/

/-- The requests an agent has no move for: a core's event and the environment's bus access (R475). -/
theorem Request.proper_eq_false_iff (r : Request) :
    r.proper = false ↔ (∃ m, r.agent = .core m ∧ r.desc.extractLsb' 14 2 = 0b10#2) ∨
      (r.agent = .environment ∧ r.desc.getLsbD 15 = false) := by
  rw [getLsbD_15_eq_false_iff, Request.proper]
  change _ ↔ (∃ m, _ ∧ descClass r.desc = _) ∨ _
  generalize descClass r.desc = c
  cases r.agent with
  | core m => simp
  | environment =>
    simp only [reduceCtorEq, false_and, exists_false, false_or, true_and]
    revert c
    decide

/-- A step whose first pending operation is refused. -/
theorem step_of_exec_refused {r : Request} {rest : List Request} {e : Refusal} (hv : s.params.Valid)
    (hp : s.pending = r :: rest) (hq : r.proper = true)
    (he : exec (decode s.params.bufCap r.desc r.data) (s.setPending rest) = .refused e) :
    step s = .refused e := by
  rw [step, if_pos hv]
  simp only [takeRequest_cons hp, hq, if_true, decodeRequest, he]

theorem recordFault_of_error {k : BusError} (a : Agent) (h : s.response = .error k) :
    recordFault a s = s.setFaults (s.faults ++ [(a, k)]) := by
  simp only [recordFault, h]

theorem recordFault_of_no_error (a : Agent) (h : ∀ k, s.response ≠ .error k) : recordFault a s = s := by
  obtain ⟨k, hk, -⟩ | ⟨-, he⟩ := recordFault_cases a s
  · exact absurd hk (h k)
  · exact he

/-- Settles O9: the barred requests are the improper ones, and a proper one's step is its operation's
outcome with a bus error recorded. -/
theorem stepPerformsDecodedOperation : Obligations.StepPerformsDecodedOperation := by
  intro s r rest hv hp event access barred
  refine ⟨fun hb => step_of_improper hv hp (r.proper_eq_false_iff.2 hb), fun hb => ?_⟩
  have hq : r.proper = true := Bool.eq_true_of_not_eq_false fun hf => hb (r.proper_eq_false_iff.1 hf)
  refine ⟨fun t ht => ?_, fun e he => step_of_exec_refused hv hp hq he⟩
  have hstep : step s = .next (recordFault r.agent t) := step_of_exec hv hp hq ht
  refine ⟨fun k hk => ?_, fun hk => ?_⟩
  · rw [hstep, recordFault_of_error _ hk]; rfl
  · rw [hstep, recordFault_of_no_error _ hk]

/-- Settles O10, by the law of the idle step. -/
theorem stepWithNothingPendingStays : Obligations.StepWithNothingPendingStays := fun _ => step_idle

end Sys2Proof.Machine
end

section
/-! The decoder and the encoder undo each other (30_encoding.md R131 to R136, R141). -/

namespace Sys2Proof

/-! ## Fields and numbers -/

section
variable (z : BitVec 10) (ev : BitVec 4)

/-- The four values of a two-bit field. -/
theorem bitVec2_cases (b : BitVec 2) : b = 0b00#2 ∨ b = 0b01#2 ∨ b = 0b10#2 ∨ b = 0b11#2 := by
  revert b; decide

theorem decode_of_event {d : Descriptor} (cap : Nat) (v : Word) (h : descClass d = 0b10#2) :
    decode cap d v = decodeEvent d := by
  simp [decode, h]

theorem decode_of_reservedClass {d : Descriptor} (cap : Nat) (v : Word) (h : descClass d = 0b11#2) :
    decode cap d v = .reservedClass (d.extractLsb' 0 14) := by
  simp [decode, h]

/-- A bus descriptor is its size and its offset (R131). -/
theorem exists_eq_busWord {d : Descriptor} {cls : BitVec 2} (h : descClass d = cls) :
    ∃ size off, d = busWord cls size off :=
  ⟨descSize d, descOff d, h ▸ (eq_busWord d).symm⟩

/-- A descriptor of class 10 is its Z and its EV (R132). -/
theorem eq_evtWord {d : Descriptor} (h : descClass d = 0b10#2) : evtWord (descZ d) (descEv d) = d := by
  rw [evtWord, ← h]
  apply BitVec.eq_of_getLsbD_eq; intro i hi
  simp only [descClass, descZ, descEv, BitVec.getLsbD_extractLsb', BitVec.getLsbD_append]
  interval_cases i <;> simp

/-- A descriptor of class 11 is its class and the 14 bits below. -/
theorem eq_reservedClassWord {d : Descriptor} (h : descClass d = 0b11#2) :
    (0b11#2 ++ d.extractLsb' 0 14 : BitVec 16) = d := by
  rw [← h]
  exact BitVec.extractLsb'_append_extractLsb' (w := 2) (len := 14)

/-- The low four bits of an event descriptor are EV's. -/
theorem getLsbD_evtWord_low {n : Nat} (h : n < 4) : (evtWord z ev).getLsbD n = ev.getLsbD n := by
  rw [evtWord, BitVec.getLsbD_append, if_pos h]

theorem extractLsb'_evtWord_low {n k : Nat} (h : n + k ≤ 4) :
    (evtWord z ev).extractLsb' n k = ev.extractLsb' n k := by
  apply BitVec.eq_of_getLsbD_eq; intro i hi
  rw [BitVec.getLsbD_extractLsb', BitVec.getLsbD_extractLsb', getLsbD_evtWord_low _ _ (by omega)]

end

/-! ## The lowest set bit of a word -/

section
variable {n k : Nat} {x : BitVec n}

/-- A word that is not zero has a lowest set bit. -/
theorem exists_lowest_bit (h : x ≠ 0#n) :
    ∃ k < n, x.getLsbD k = true ∧ ∀ i < k, x.getLsbD i = false := by
  have hset : ∃ k, x.getLsbD k = true := by
    by_contra hnone
    exact h (BitVec.eq_of_getLsbD_eq fun i _ => by simpa using fun hb => hnone ⟨i, hb⟩)
  exact ⟨Nat.find hset, BitVec.lt_of_getLsbD (Nat.find_spec hset), Nat.find_spec hset,
    fun i hi => Bool.eq_false_iff.2 (Nat.find_min hset hi)⟩

/-- Up to its lowest set bit a word is a power of two. -/
theorem extractLsb'_eq_twoPow_of_lowest (hlow : ∀ i < k, x.getLsbD i = false)
    (hbit : x.getLsbD k = true) : x.extractLsb' 0 (k + 1) = BitVec.twoPow (k + 1) k := by
  apply BitVec.eq_of_getLsbD_eq; intro i hi
  rw [BitVec.getLsbD_extractLsb', BitVec.getLsbD_twoPow]
  obtain hlt | rfl := Nat.lt_succ_iff_lt_or_eq.1 hi
  · simp [hlow i hlt, hlt.ne']
  · simp [hbit]

/-- A word from its lowest set bit and what lies above. -/
theorem append_twoPow_eq_of_lowest {m : Nat} {x : BitVec (m + (k + 1))}
    (hlow : ∀ i < k, x.getLsbD i = false) (hbit : x.getLsbD k = true) :
    x.extractLsb' (k + 1) m ++ BitVec.twoPow (k + 1) k = x := by
  rw [← extractLsb'_eq_twoPow_of_lowest hlow hbit]
  exact BitVec.extractLsb'_append_extractLsb'

theorem append_ne_zero {m : Nat} (hi : BitVec m) {lo : BitVec n} (h : lo ≠ 0#n) :
    hi ++ lo ≠ 0#(m + n) := by
  intro h0
  apply h
  rw [← BitVec.extractLsb'_append_eq_right (a := hi) (b := lo), h0, BitVec.extractLsb'_zero]

end

/-! ## Aligned offsets -/

section
variable {off : Offset} {w : BitVec 10} {j : BitVec 8} {cap : Nat}

theorem toNat_of_aligned (h : off.extractLsb' 0 2 = 0b00#2) : off.toNat = 4 * (offWord off).toNat := by
  rw [← toNat_mkOff_zero, ← h, eq_mkOff]

/-- At an aligned offset the read table holds exactly the fixed registers. -/
theorem fixedRead_isSome_of_aligned (h : off.extractLsb' 0 2 = 0b00#2) :
    (fixedRead off.toNat).isSome = isFixedRegister (offWord off) := by
  rw [toNat_of_aligned h, fixedRead_isSome]

theorem fixedWrite_isSome_of_aligned (h : off.extractLsb' 0 2 = 0b00#2) (v : Word) :
    (fixedWrite off.toNat v).isSome = isFixedRegister (offWord off) := by
  rw [fixedWrite_isSome, fixedRead_isSome_of_aligned h]

/-- The fixed registers lie at multiples of four. -/
theorem fixedRead_aligned {n : Nat} {i : Instr} (h : fixedRead n = some i) : n % 4 = 0 := by
  unfold fixedRead at h
  split at h <;> cases h <;> rfl

theorem fixedWrite_aligned {n : Nat} {v : Word} {i : Instr} (h : fixedWrite n v = some i) :
    n % 4 = 0 := by
  have hsome : (fixedRead n).isSome = true := by rw [← fixedWrite_isSome n v, h]; rfl
  obtain ⟨_, hr⟩ := Option.isSome_iff_exists.1 hsome
  exact fixedRead_aligned hr

theorem low_eq_zero_of_mod_four (h : off.toNat % 4 = 0) : off.extractLsb' 0 2 = 0b00#2 := by
  apply BitVec.eq_of_toNat_eq
  rw [BitVec.extractLsb'_toNat, Nat.shiftRight_zero, h]
  rfl

/-- An aligned offset of SW_BUF is `0x400 + 4*j` for an index `j` below `ceil(BUF_CAP/4)` (R134 step 7). -/
theorem exists_eq_swBufOff (h : off.extractLsb' 0 2 = 0b00#2)
    (hbuf : isSwBufWord cap (offWord off) = true) :
    ∃ j, off = swBufOff j ∧ j.toNat < swBufWords cap := by
  obtain ⟨hlo, hhi, hcap⟩ := of_decide_eq_true hbuf
  refine ⟨BitVec.ofNat 8 ((offWord off).toNat - 0x100), BitVec.eq_of_toNat_eq ?_, ?_⟩
  · rw [toNat_of_aligned h, toNat_of_aligned (low_swBufOff _), offWord_swBufOff, BitVec.toNat_ofNat]
    omega
  · rw [BitVec.toNat_ofNat]
    omega

theorem isSwBufWord_swBufOff :
    isSwBufWord cap (offWord (swBufOff j)) = decide (j.toNat < swBufWords cap) := by
  have := j.isLt
  rw [isSwBufWord, offWord_swBufOff, decide_eq_decide]
  omega

/-- No fixed register lies in SW_BUF's range. -/
theorem isFixedRegister_swBufOff : isFixedRegister (offWord (swBufOff j)) = false := by
  have hmap : ∀ r ∈ registerMap, r.2 < 0x400 ∨ 0x800 ≤ r.2 := by decide
  rw [isFixedRegister, List.any_eq_false]
  intro r hr
  have := hmap r hr
  rw [offWord_swBufOff, beq_iff_eq]
  omega

theorem isMapped_eq_false_iff :
    isMapped cap w = false ↔ isFixedRegister w = false ∧ isSwBufWord cap w = false := by
  rw [isMapped, Bool.or_eq_false_iff]

theorem wellFormed_rdUnmapped_iff :
    (Instr.rdUnmapped w).wellFormed cap = true ↔ isMapped cap w = false := by
  rw [Instr.wellFormed, Bool.not_eq_true']

theorem wellFormed_wrUnmapped_iff (v : Word) :
    (Instr.wrUnmapped w v).wellFormed cap = true ↔ isMapped cap w = false := by
  rw [Instr.wellFormed, Bool.not_eq_true']

/-- What an aligned offset can be: a fixed register's, a mapped SW_BUF word's or unmapped. -/
theorem aligned_cases (cap : Nat) (h : off.extractLsb' 0 2 = 0b00#2) :
    isFixedRegister (offWord off) = true ∨ (∃ j, off = swBufOff j ∧ j.toNat < swBufWords cap) ∨
      ∃ w, off = mkOff w 0b00#2 ∧ isMapped cap w = false := by
  cases hfix : isFixedRegister (offWord off) with
  | true => exact .inl rfl
  | false =>
    cases hbuf : isSwBufWord cap (offWord off) with
    | true => exact .inr (.inl (exists_eq_swBufOff h hbuf))
    | false =>
      exact .inr (.inr ⟨offWord off, by rw [← h, eq_mkOff], isMapped_eq_false_iff.2 ⟨hfix, hbuf⟩⟩)

end

/-! ## Aligned 32-bit accesses (R134 steps 7 and 8) -/

section
variable {off : Offset} {w : BitVec 10} {j : BitVec 8} {cap : Nat} {i : Instr}

theorem decodeRead_of_fixedRead (h : fixedRead off.toNat = some i) : decodeRead cap off = i := by
  rw [decodeRead, h]

theorem decodeWrite_of_fixedWrite {v : Word} (h : fixedWrite off.toNat v = some i) :
    decodeWrite cap off v = i := by
  rw [decodeWrite, h]

/-- Where no fixed register lies, a read is SW_BUF's or unmapped. -/
theorem decodeRead_of_not_fixed (hlow : off.extractLsb' 0 2 = 0b00#2)
    (h : isFixedRegister (offWord off) = false) :
    decodeRead cap off =
      if isSwBufWord cap (offWord off) then .rdSwBuf (offIndex off) else .rdUnmapped (offWord off) := by
  rw [← fixedRead_isSome_of_aligned hlow, Option.isSome_eq_false_iff, Option.isNone_iff_eq_none] at h
  rw [decodeRead, h]

theorem decodeWrite_of_not_fixed (v : Word) (hlow : off.extractLsb' 0 2 = 0b00#2)
    (h : isFixedRegister (offWord off) = false) :
    decodeWrite cap off v =
      if isSwBufWord cap (offWord off) then .wrSwBuf (offIndex off) v else .wrUnmapped (offWord off) v := by
  rw [← fixedWrite_isSome_of_aligned hlow v, Option.isSome_eq_false_iff, Option.isNone_iff_eq_none] at h
  rw [decodeWrite, h]

theorem decodeRead_swBufOff (h : j.toNat < swBufWords cap) : decodeRead cap (swBufOff j) = .rdSwBuf j := by
  rw [decodeRead_of_not_fixed (low_swBufOff j) isFixedRegister_swBufOff, isSwBufWord_swBufOff,
    decide_eq_true h, if_pos rfl, offIndex_swBufOff]

theorem decodeWrite_swBufOff (v : Word) (h : j.toNat < swBufWords cap) :
    decodeWrite cap (swBufOff j) v = .wrSwBuf j v := by
  rw [decodeWrite_of_not_fixed v (low_swBufOff j) isFixedRegister_swBufOff, isSwBufWord_swBufOff,
    decide_eq_true h, if_pos rfl, offIndex_swBufOff]

theorem decodeRead_unmapped (h : isMapped cap w = false) :
    decodeRead cap (mkOff w 0b00#2) = .rdUnmapped w := by
  obtain ⟨hfix, hbuf⟩ := isMapped_eq_false_iff.1 h
  rw [decodeRead_of_not_fixed (low_mkOff _ _) (by rwa [offWord_mkOff]), offWord_mkOff, hbuf]
  rfl

theorem decodeWrite_unmapped (v : Word) (h : isMapped cap w = false) :
    decodeWrite cap (mkOff w 0b00#2) v = .wrUnmapped w v := by
  obtain ⟨hfix, hbuf⟩ := isMapped_eq_false_iff.1 h
  rw [decodeWrite_of_not_fixed v (low_mkOff _ _) (by rwa [offWord_mkOff]), offWord_mkOff, hbuf]
  rfl

end

/-! ## Event descriptors (R134 steps 2 to 4) -/

section
variable (z : BitVec 10) (ev : BitVec 4)

/-- The reserved row of an event descriptor, by the lowest set bit of Z. -/
def reservedZRow : Instr :=
  if z.getLsbD 0 then .reservedEvtZ4 (z.extractLsb' 1 9) ev
  else if z.getLsbD 1 then .reservedEvtZ5 (z.extractLsb' 2 8) ev
  else if z.getLsbD 2 then .reservedEvtZ6 (z.extractLsb' 3 7) ev
  else if z.getLsbD 3 then .reservedEvtZ7 (z.extractLsb' 4 6) ev
  else if z.getLsbD 4 then .reservedEvtZ8 (z.extractLsb' 5 5) ev
  else if z.getLsbD 5 then .reservedEvtZ9 (z.extractLsb' 6 4) ev
  else if z.getLsbD 6 then .reservedEvtZ10 (z.extractLsb' 7 3) ev
  else if z.getLsbD 7 then .reservedEvtZ11 (z.extractLsb' 8 2) ev
  else if z.getLsbD 8 then .reservedEvtZ12 (z.extractLsb' 9 1) ev
  else .reservedEvtZ13 ev

theorem decodeReservedZ_evtWord : decodeReservedZ (evtWord z ev) = reservedZRow z ev := by
  simp (disch := decide) only [decodeReservedZ, reservedZRow, descEv_evtWord, getLsbD_evtWord z ev,
    extractLsb'_evtWord z ev]

/-- The class 10 decoder in terms of Z and EV. -/
theorem decodeEvent_evtWord :
    decodeEvent (evtWord z ev) =
      if z ≠ 0#10 then reservedZRow z ev
      else if ev.getLsbD 3 then .reservedEvtEv (ev.extractLsb' 0 3)
      else decodeEventCode (ev.extractLsb' 0 3) := by
  rw [decodeEvent, descZ_evtWord, decodeReservedZ_evtWord, getLsbD_evtWord_low _ _ (by decide),
    extractLsb'_evtWord_low _ _ (by decide)]

end

/-! ## The words of a decoded descriptor -/

/-- `i` is well formed, and its words are `d` and, if it is a write, `v`. -/
def Spells (cap : Nat) (i : Instr) (d : Descriptor) (v : Word) : Prop :=
  i.wellFormed cap = true ∧ encode i = (d, if i.isWrite then v else 0)

section
variable (cap : Nat) {off : Offset} {size low : BitVec 2} {w z : BitVec 10} {i : Instr} (v : Word)

theorem spells_of_fixedRead {n : Nat} (h : fixedRead n = some i) :
    Spells cap i (readWord (BitVec.ofNat 12 n)) v := by
  unfold fixedRead at h
  split at h <;> cases h <;> exact ⟨rfl, rfl⟩

theorem spells_of_fixedWrite {n : Nat} (h : fixedWrite n v = some i) :
    Spells cap i (writeWord (BitVec.ofNat 12 n)) v := by
  unfold fixedWrite at h
  split at h <;> cases h <;> exact ⟨rfl, rfl⟩

theorem spells_decodeRead (hlow : off.extractLsb' 0 2 = 0b00#2) :
    Spells cap (decodeRead cap off) (readWord off) v := by
  obtain hfix | ⟨j, rfl, hj⟩ | ⟨w, rfl, hw⟩ := aligned_cases cap hlow
  · rw [← fixedRead_isSome_of_aligned hlow] at hfix
    obtain ⟨i, hi⟩ := Option.isSome_iff_exists.1 hfix
    have := spells_of_fixedRead cap v hi
    rwa [BitVec.ofNat_toNat, BitVec.setWidth_eq, ← decodeRead_of_fixedRead (cap := cap) hi] at this
  · rw [decodeRead_swBufOff hj]
    exact ⟨decide_eq_true hj, rfl⟩
  · rw [decodeRead_unmapped hw]
    exact ⟨wellFormed_rdUnmapped_iff.2 hw, rfl⟩

theorem spells_decodeWrite (hlow : off.extractLsb' 0 2 = 0b00#2) :
    Spells cap (decodeWrite cap off v) (writeWord off) v := by
  obtain hfix | ⟨j, rfl, hj⟩ | ⟨w, rfl, hw⟩ := aligned_cases cap hlow
  · rw [← fixedWrite_isSome_of_aligned hlow v] at hfix
    obtain ⟨i, hi⟩ := Option.isSome_iff_exists.1 hfix
    have := spells_of_fixedWrite cap v hi
    rwa [BitVec.ofNat_toNat, BitVec.setWidth_eq, ← decodeWrite_of_fixedWrite (cap := cap) hi] at this
  · rw [decodeWrite_swBufOff v hj]
    exact ⟨decide_eq_true hj, rfl⟩
  · rw [decodeWrite_unmapped v hw]
    exact ⟨(wellFormed_wrUnmapped_iff v).2 hw, rfl⟩

theorem spells_decodeReadSize (h : size ≠ 0b10#2) :
    Spells cap (decodeReadSize size off) (busWord 0b00#2 size off) v := by
  obtain rfl | rfl | rfl | rfl := bitVec2_cases size
  exacts [⟨rfl, rfl⟩, ⟨rfl, rfl⟩, absurd rfl h, ⟨rfl, rfl⟩]

theorem spells_decodeWriteSize (h : size ≠ 0b10#2) :
    Spells cap (decodeWriteSize size off v) (busWord 0b01#2 size off) v := by
  obtain rfl | rfl | rfl | rfl := bitVec2_cases size
  exacts [⟨rfl, rfl⟩, ⟨rfl, rfl⟩, absurd rfl h, ⟨rfl, rfl⟩]

theorem spells_decodeReadAlign (h : low ≠ 0b00#2) :
    Spells cap (decodeReadAlign low w) (readWord (mkOff w low)) v := by
  obtain rfl | rfl | rfl | rfl := bitVec2_cases low
  exacts [absurd rfl h, ⟨rfl, rfl⟩, ⟨rfl, rfl⟩, ⟨rfl, rfl⟩]

theorem spells_decodeWriteAlign (h : low ≠ 0b00#2) :
    Spells cap (decodeWriteAlign low w v) (writeWord (mkOff w low)) v := by
  obtain rfl | rfl | rfl | rfl := bitVec2_cases low
  exacts [absurd rfl h, ⟨rfl, rfl⟩, ⟨rfl, rfl⟩, ⟨rfl, rfl⟩]

theorem spells_decodeBusRead {d : Descriptor} (h : descClass d = 0b00#2) :
    Spells cap (decodeBusRead cap d) d v := by
  obtain ⟨size, off, rfl⟩ := exists_eq_busWord h
  simp only [decodeBusRead, descSize_busWord, descOff_busWord, low_busWord]
  split_ifs with hsize hlow
  · exact spells_decodeReadSize cap v hsize
  · obtain rfl := not_not.1 hsize
    have := spells_decodeReadAlign cap (w := offWord off) v hlow
    rwa [eq_mkOff] at this
  · obtain rfl := not_not.1 hsize
    exact spells_decodeRead cap v (not_not.1 hlow)

theorem spells_decodeBusWrite {d : Descriptor} (h : descClass d = 0b01#2) :
    Spells cap (decodeBusWrite cap d v) d v := by
  obtain ⟨size, off, rfl⟩ := exists_eq_busWord h
  simp only [decodeBusWrite, descSize_busWord, descOff_busWord, low_busWord]
  split_ifs with hsize hlow
  · exact spells_decodeWriteSize cap v hsize
  · obtain rfl := not_not.1 hsize
    have := spells_decodeWriteAlign cap (w := offWord off) v hlow
    rwa [eq_mkOff] at this
  · obtain rfl := not_not.1 hsize
    exact spells_decodeWrite cap v (not_not.1 hlow)

end

section
variable {cap : Nat} {i : Instr} {z z' : BitVec 10} {ev : BitVec 4} {v : Word}

/-- Spelling an event descriptor: no event row is a write. -/
theorem spells_evtWord (hwf : i.wellFormed cap = true) (hw : i.isWrite = false)
    (henc : encode i = (evtWord z' ev, 0#32)) (hz : z' = z) : Spells cap i (evtWord z ev) v := by
  refine ⟨hwf, ?_⟩
  rw [henc, hw, hz]
  rfl

/-- A row's words hold the row's own bit of Z, zeros below it and the operand above it. -/
theorem spells_reservedZRow (h : z ≠ 0#10) :
    Spells cap (reservedZRow z ev) (evtWord z ev) v := by
  obtain ⟨k, hk, hbit, hlow⟩ := exists_lowest_bit h
  interval_cases k <;>
    simp only [reservedZRow, hbit, hlow, Nat.reduceLT, Bool.false_eq_true, if_true, if_false]
  · exact spells_evtWord rfl rfl rfl (append_twoPow_eq_of_lowest (k := 0) (m := 9) hlow hbit)
  · exact spells_evtWord rfl rfl rfl (append_twoPow_eq_of_lowest (k := 1) (m := 8) hlow hbit)
  · exact spells_evtWord rfl rfl rfl (append_twoPow_eq_of_lowest (k := 2) (m := 7) hlow hbit)
  · exact spells_evtWord rfl rfl rfl (append_twoPow_eq_of_lowest (k := 3) (m := 6) hlow hbit)
  · exact spells_evtWord rfl rfl rfl (append_twoPow_eq_of_lowest (k := 4) (m := 5) hlow hbit)
  · exact spells_evtWord rfl rfl rfl (append_twoPow_eq_of_lowest (k := 5) (m := 4) hlow hbit)
  · exact spells_evtWord rfl rfl rfl (append_twoPow_eq_of_lowest (k := 6) (m := 3) hlow hbit)
  · exact spells_evtWord rfl rfl rfl (append_twoPow_eq_of_lowest (k := 7) (m := 2) hlow hbit)
  · exact spells_evtWord rfl rfl rfl (append_twoPow_eq_of_lowest (k := 8) (m := 1) hlow hbit)
  · have hz := extractLsb'_eq_twoPow_of_lowest hlow hbit
    exact spells_evtWord rfl rfl rfl (hz.symm.trans BitVec.extractLsb'_eq_self)

/-- The events, whose EV is below 8. -/
theorem spells_decodeEventCode (h : ev.getLsbD 3 = false) :
    Spells cap (decodeEventCode (ev.extractLsb' 0 3)) (evtWord 0#10 ev) v := by
  have hwf (code : BitVec 3) : (decodeEventCode code).wellFormed cap = true := by
    unfold decodeEventCode
    split <;> rfl
  have hw (code : BitVec 3) : (decodeEventCode code).isWrite = false := by
    revert code; decide
  have henc : encode (decodeEventCode (ev.extractLsb' 0 3)) = (evtWord 0#10 ev, 0#32) := by
    revert ev; decide
  exact spells_evtWord (hwf _) (hw _) henc rfl

/-- The reserved codes of EV, 8 and above. -/
theorem spells_reservedEvtEv (h : ev.getLsbD 3 = true) :
    Spells cap (.reservedEvtEv (ev.extractLsb' 0 3)) (evtWord 0#10 ev) v := by
  have hev : (0b1#1 ++ ev.extractLsb' 0 3 : BitVec 4) = ev := by
    revert ev; decide
  exact ⟨rfl, congrArg (fun e => (evtWord 0#10 e, 0#32)) hev⟩

theorem spells_decodeEvent {d : Descriptor} (h : descClass d = 0b10#2) : Spells cap (decodeEvent d) d v := by
  obtain ⟨z, ev, rfl⟩ : ∃ z ev, d = evtWord z ev := ⟨_, _, (eq_evtWord h).symm⟩
  rw [decodeEvent_evtWord]
  split_ifs with hz htop
  · exact spells_reservedZRow hz
  · exact not_not.1 hz ▸ spells_reservedEvtEv htop
  · exact not_not.1 hz ▸ spells_decodeEventCode (Bool.eq_false_iff.2 htop)

theorem spells_decode (cap : Nat) (d : Descriptor) (v : Word) : Spells cap (decode cap d v) d v := by
  obtain h | h | h | h := bitVec2_cases (descClass d)
  · exact Machine.decode_of_read cap v h ▸ spells_decodeBusRead cap v h
  · exact Machine.decode_of_write cap v h ▸ spells_decodeBusWrite cap v h
  · exact decode_of_event cap v h ▸ spells_decodeEvent h
  · rw [decode_of_reservedClass cap v h]
    exact ⟨rfl, congrArg (·, 0#32) (eq_reservedClassWord h)⟩

end

/-- Settles O2: each branch of the decoder answers an operation that spells the descriptor. -/
theorem encodeInvertsDecode : Obligations.EncodeInvertsDecode := spells_decode

/-! ## Decoding what the encoder builds -/

section
variable {cap : Nat} {off : Offset} {size low : BitVec 2} {w z : BitVec 10} {ev : BitVec 4} {v : Word}
  {i : Instr}

theorem decode_busWord_read (h : size ≠ 0b10#2) :
    decode cap (busWord 0b00#2 size off) v = decodeReadSize size off := by
  rw [Machine.decode_of_read cap v (descClass_busWord _ _ _), decodeBusRead, descSize_busWord, if_pos h,
    descOff_busWord]

theorem decode_busWord_write (h : size ≠ 0b10#2) :
    decode cap (busWord 0b01#2 size off) v = decodeWriteSize size off v := by
  rw [Machine.decode_of_write cap v (descClass_busWord _ _ _), decodeBusWrite, descSize_busWord, if_pos h,
    descOff_busWord]

/-- The words of a 32-bit read: R134 steps 6 to 8. -/
theorem decode_readWord :
    decode cap (readWord off) v =
      if off.extractLsb' 0 2 ≠ 0b00#2 then decodeReadAlign (off.extractLsb' 0 2) (offWord off)
      else decodeRead cap off := by
  rw [readWord, Machine.decode_of_read cap v (descClass_busWord _ _ _), decodeBusRead, descSize_busWord,
    if_neg (not_not.2 rfl), low_busWord, descOff_busWord]

/-- The words of a 32-bit write: R134 steps 6 to 8. -/
theorem decode_writeWord :
    decode cap (writeWord off) v =
      if off.extractLsb' 0 2 ≠ 0b00#2 then decodeWriteAlign (off.extractLsb' 0 2) (offWord off) v
      else decodeWrite cap off v := by
  rw [writeWord, Machine.decode_of_write cap v (descClass_busWord _ _ _), decodeBusWrite, descSize_busWord,
    if_neg (not_not.2 rfl), low_busWord, descOff_busWord]

theorem decode_readWord_misaligned (h : low ≠ 0b00#2) :
    decode cap (readWord (mkOff w low)) v = decodeReadAlign low w := by
  rw [decode_readWord, low_mkOff, if_pos h, offWord_mkOff]

theorem decode_writeWord_misaligned (h : low ≠ 0b00#2) :
    decode cap (writeWord (mkOff w low)) v = decodeWriteAlign low w v := by
  rw [decode_writeWord, low_mkOff, if_pos h, offWord_mkOff]

theorem decode_readWord_aligned (h : off.extractLsb' 0 2 = 0b00#2) :
    decode cap (readWord off) v = decodeRead cap off := by
  rw [decode_readWord, if_neg (not_not.2 h)]

theorem decode_writeWord_aligned (h : off.extractLsb' 0 2 = 0b00#2) :
    decode cap (writeWord off) v = decodeWrite cap off v := by
  rw [decode_writeWord, if_neg (not_not.2 h)]

theorem decode_readWord_fixed (h : fixedRead off.toNat = some i) : decode cap (readWord off) v = i := by
  rw [decode_readWord_aligned (low_eq_zero_of_mod_four (fixedRead_aligned h)), decodeRead_of_fixedRead h]

theorem decode_writeWord_fixed (h : fixedWrite off.toNat v = some i) :
    decode cap (writeWord off) v = i := by
  rw [decode_writeWord_aligned (low_eq_zero_of_mod_four (fixedWrite_aligned h)), decodeWrite_of_fixedWrite h]

/-- The words of an event descriptor: R134 steps 2 to 4. -/
theorem decode_evtWord :
    decode cap (evtWord z ev) v =
      if z ≠ 0#10 then reservedZRow z ev
      else if ev.getLsbD 3 then .reservedEvtEv (ev.extractLsb' 0 3)
      else decodeEventCode (ev.extractLsb' 0 3) := by
  rw [decode_of_event cap v (descClass_evtWord z ev), decodeEvent_evtWord]

theorem decode_evtWord_reserved (h : z ≠ 0#10) : decode cap (evtWord z ev) v = reservedZRow z ev := by
  rw [decode_evtWord, if_pos h]

theorem decode_evtWord_code :
    decode cap (evtWord 0#10 ev) v =
      if ev.getLsbD 3 then .reservedEvtEv (ev.extractLsb' 0 3) else decodeEventCode (ev.extractLsb' 0 3) := by
  rw [decode_evtWord, if_neg (not_not.2 rfl)]

theorem decode_reservedClassWord (low : BitVec 14) :
    decode cap (0b11#2 ++ low : BitVec 16) v = .reservedClass low := by
  have hclass : descClass (0b11#2 ++ low : BitVec 16) = 0b11#2 :=
    BitVec.extractLsb'_append_eq_left (a := 0b11#2) (b := low)
  rw [decode_of_reservedClass cap v hclass]
  exact congrArg _ (BitVec.extractLsb'_append_eq_right (a := 0b11#2) (b := low))

end

/-- Settles O1, by the kind of row: a fixed register's words are looked up in its table, and each other row's
fields are read back. -/
theorem decodeInvertsEncode : Obligations.DecodeInvertsEncode := by
  intro cap i hwf
  cases i with
  | rdCntCtrl | rdCntWindow | rdCntPpm | rdCntFrac | rdCntStatus | rdCntCurWindow | rdCntPulses
  | rdCntRaw | rdCntGlitch | rdCntTarget | rdCntMinInterval | rdCntEstimate | rdCntStartLo
  | rdCntStartHi | rdCntEndLo | rdCntEndHi | rdCntAlarmLo | rdCntAlarmHi | rdSwCtrl | rdSwStatus
  | rdSwBitrate | rdSwHalf | rdSwAddr | rdSwLen | rdSwLast | rdCrcCtrl | rdCrcData | rdCrcValue
  | rdRqStatus | rdRqCmd | rdRqOvf | rdRFlags | rdRPulses | rdRRaw | rdRMinInterval | rdRFreqX1e4
  | rdRElapsedLo | rdRElapsedHi | rdRStartLo | rdRStartHi | rdREndLo | rdREndHi | rdFqStatus | rdFqCmd
  | rdFqOvf | rdFqPush | rdFqData | rdNowLo | rdNowHi | rdIntEn | rdIntStat =>
    exact decode_readWord_fixed rfl
  | wrCntCtrl v | wrCntWindow v | wrCntPpm v | wrCntFrac v | wrCntStatus v | wrCntCurWindow v
  | wrCntPulses v | wrCntRaw v | wrCntGlitch v | wrCntTarget v | wrCntMinInterval v | wrCntEstimate v
  | wrCntStartLo v | wrCntStartHi v | wrCntEndLo v | wrCntEndHi v | wrCntAlarmLo v | wrCntAlarmHi v
  | wrSwCtrl v | wrSwStatus v | wrSwBitrate v | wrSwHalf v | wrSwAddr v | wrSwLen v | wrSwLast v
  | wrCrcCtrl v | wrCrcData v | wrCrcValue v | wrRqStatus v | wrRqCmd v | wrRqOvf v | wrRFlags v
  | wrRPulses v | wrRRaw v | wrRMinInterval v | wrRFreqX1e4 v | wrRElapsedLo v | wrRElapsedHi v
  | wrRStartLo v | wrRStartHi v | wrREndLo v | wrREndHi v | wrFqStatus v | wrFqCmd v | wrFqOvf v
  | wrFqPush v | wrFqData v | wrNowLo v | wrNowHi v | wrIntEn v | wrIntStat v =>
    exact decode_writeWord_fixed rfl
  | rdSwBuf j =>
    exact (decode_readWord_aligned (low_swBufOff j)).trans (decodeRead_swBufOff (of_decide_eq_true hwf))
  | wrSwBuf j v =>
    exact (decode_writeWord_aligned (low_swBufOff j)).trans (decodeWrite_swBufOff v (of_decide_eq_true hwf))
  | rdUnmapped w =>
    have hw := wellFormed_rdUnmapped_iff.1 hwf
    exact (decode_readWord_aligned (low_mkOff _ w)).trans (decodeRead_unmapped hw)
  | wrUnmapped w v =>
    have hw := (wellFormed_wrUnmapped_iff v).1 hwf
    exact (decode_writeWord_aligned (low_mkOff _ w)).trans (decodeWrite_unmapped v hw)
  | rdBuserrSize8 off | rdBuserrSize16 off | rdBuserrSize64 off => exact decode_busWord_read (by decide)
  | wrBuserrSize8 off v | wrBuserrSize16 off v | wrBuserrSize64 off v =>
    exact decode_busWord_write (by decide)
  | rdBuserrAlign1 w | rdBuserrAlign2 w | rdBuserrAlign3 w => exact decode_readWord_misaligned (by decide)
  | wrBuserrAlign1 w v | wrBuserrAlign2 w v | wrBuserrAlign3 w v =>
    exact decode_writeWord_misaligned (by decide)
  | evTick | evSigHigh | evSigLow | evSyncHigh | evSyncLow | evSwioHigh | evSwioLow | evReset =>
    exact decode_evtWord_code
  | reservedEvtEv code =>
    refine decode_evtWord_code.trans ?_
    simp only [BitVec.getLsbD_append, BitVec.extractLsb'_append_eq_right]
    rfl
  | reservedClass low => exact decode_reservedClassWord low
  | reservedEvtZ4 hi ev | reservedEvtZ5 hi ev | reservedEvtZ6 hi ev | reservedEvtZ7 hi ev
  | reservedEvtZ8 hi ev | reservedEvtZ9 hi ev | reservedEvtZ10 hi ev | reservedEvtZ11 hi ev
  | reservedEvtZ12 hi ev =>
    refine (decode_evtWord_reserved (append_ne_zero hi (by decide))).trans ?_
    simp only [reservedZRow, BitVec.getLsbD_append, BitVec.extractLsb'_append_eq_left]
    rfl
  | reservedEvtZ13 ev => exact decode_evtWord_reserved (by decide)

/-- Settles O3: R141's words are the encodings of the operations it names. -/
theorem workedEncodingsDecode : Obligations.WorkedEncodingsDecode := by
  intro cap hlo hhi
  have hbuf : (Instr.rdSwBuf 1#8).wellFormed cap = true :=
    decide_eq_true (by rw [swBufWords, BitVec.toNat_ofNat]; omega)
  have hunmapped : (Instr.rdUnmapped 0x200#10).wellFormed cap = true :=
    wellFormed_rdUnmapped_iff.2
      (isMapped_eq_false_iff.2 ⟨by decide, decide_eq_false (by rw [BitVec.toNat_ofNat]; omega)⟩)
  have roundTrip := decodeInvertsEncode cap
  exact ⟨roundTrip (.wrCntCtrl 3#32) rfl, roundTrip .rdCntStatus rfl,
    roundTrip (.wrFqPush 0xDEADBEEF#32) rfl, roundTrip (.rdSwBuf 1#8) hbuf,
    roundTrip (.rdBuserrSize16 0x010#12) rfl, roundTrip (.rdBuserrAlign2 4#10) rfl,
    roundTrip (.rdUnmapped 0x200#10) hunmapped, roundTrip .evSyncHigh rfl,
    roundTrip (.reservedClass 0#14) rfl⟩

end Sys2Proof
end

section
/-! Which descriptors are refused (30_encoding.md R138; 60_exceptions.md R404). -/

namespace Sys2Proof.Machine

variable {d : Descriptor}

/-- Settles O8: a reserved row's meaning is its refusal. -/
theorem reservedRowsAreRefused : Obligations.ReservedRowsAreRefused := fun _ _ _ _ _ _ _ _ _ _ _ _ _ =>
  ⟨rfl, rfl, rfl, rfl, rfl, rfl, rfl, rfl, rfl, rfl, rfl, rfl⟩

/-- Whatever bits of Z are set, their rows are refused alike (log entry 7). -/
theorem exec_decodeReservedZ (d : Descriptor) (s : State) :
    exec (decodeReservedZ d) s = .refused .reservedEventBits := by
  unfold decodeReservedZ
  split_ifs <;> rfl

/-- Each of the eight events answers a next state. -/
theorem exec_decodeEventCode (code : BitVec 3) (s : State) :
    ∃ t, exec (decodeEventCode code) s = .next t := by
  unfold decodeEventCode
  split <;> exact ⟨_, rfl⟩

/-- EV is 8 or more when its top bit is set. -/
theorem eight_le_descEv_iff (d : Descriptor) : 8 ≤ (descEv d).toNat ↔ d.getLsbD 3 = true := by
  have hbit : d.getLsbD 3 = (descEv d).getLsbD 3 := by simp [descEv]
  rw [hbit]
  generalize descEv d = ev
  revert ev
  decide

/-- What class 10 refuses: Z not 0, or EV of 8 or more (R138). -/
theorem exec_decodeEvent (d : Descriptor) (s : State) :
    (descZ d ≠ 0#10 ∨ 8 ≤ (descEv d).toNat → ∃ r, exec (decodeEvent d) s = .refused r) ∧
      (¬ (descZ d ≠ 0#10 ∨ 8 ≤ (descEv d).toNat) → ∃ t, exec (decodeEvent d) s = .next t) := by
  rw [eight_le_descEv_iff, decodeEvent]
  split_ifs with hz htop
  · exact ⟨fun _ => ⟨_, exec_decodeReservedZ d s⟩, fun h => absurd (.inl hz) h⟩
  · exact ⟨fun _ => ⟨_, rfl⟩, fun h => absurd (.inr htop) h⟩
  · exact ⟨fun h => absurd h (not_or.2 ⟨hz, htop⟩), fun _ => exec_decodeEventCode _ s⟩

/-- R138's descriptors by class. -/
theorem reservedDescriptor_iff (d : Descriptor) :
    reservedDescriptor d ↔
      descClass d = 0b11#2 ∨ (descClass d = 0b10#2 ∧ (descZ d ≠ 0#10 ∨ 8 ≤ (descEv d).toNat)) :=
  Iff.rfl

/-- Settles O7, by the class: a bus access answers a next state, class 10 as its Z and EV say, and class 11 is
refused. -/
theorem reservedDescriptorsAreTheOnlyRefusals : Obligations.ReservedDescriptorsAreTheOnlyRefusals := by
  intro cap d v s
  rw [reservedDescriptor_iff]
  have access (hbus : d.getLsbD 15 = false) : ∃ t, exec (decode cap d v) s = .next t :=
    let ⟨_, ht, _⟩ := exec_access hbus cap v s
    ⟨_, ht⟩
  obtain h | h | h | h := bitVec2_cases (descClass d)
  · exact ⟨fun hr => by simp [h] at hr, fun _ => access ((getLsbD_15_eq_false_iff d).2 (.inl h))⟩
  · exact ⟨fun hr => by simp [h] at hr, fun _ => access ((getLsbD_15_eq_false_iff d).2 (.inr h))⟩
  · rw [decode_of_event cap v h]
    simpa [h] using exec_decodeEvent d s
  · rw [decode_of_reservedClass cap v h]
    exact ⟨fun _ => ⟨_, rfl⟩, fun hr => absurd (.inl h) hr⟩

end Sys2Proof.Machine
end

section
/-! What the writes of the counter's registers and the changes of its pins leave (40_counter.md R160 to R167,
R170 to R177). -/

namespace Sys2Proof.Machine

variable {s : State}

/-! ## The configuration registers -/

theorem vLow16_toNat (v : Word) : (vLow16 v).toNat = v.toNat % 2 ^ 16 := by
  simp [vLow16]

/-- CNT_WINDOW as it is used: 0 counts as 1 (R161). -/
theorem effectiveWindow_toNat (w : Half) : (effectiveWindow w).toNat = max 1 w.toNat := by
  unfold effectiveWindow
  split
  · rename_i h
    rw [h]
    rfl
  · rename_i h
    have := toNat_ne_zero h
    omega

theorem exec_wrCntCtrl (v : Word) (s : State) :
    exec (.wrCntCtrl v) s = .next (acknowledge (writeCntCtrl v s)) := rfl

/-- WR.CNT_CTRL without ARM stores MODE (R160). -/
theorem writeCntCtrl_of_no_arm {v : Word} (h : v.getLsbD 1 = false) (s : State) :
    writeCntCtrl v s = s.setCntCfg { s.cntCfg with mode := Mode.ofBit (v.getLsbD 0) } :=
  if_neg (Bool.eq_false_iff.1 h)

/-- WR.CNT_CTRL with ARM arms under the new MODE (R160, R161). -/
theorem writeCntCtrl_of_arm {v : Word} (h : v.getLsbD 1 = true) (s : State) :
    let cfg := { s.cntCfg with mode := Mode.ofBit (v.getLsbD 0) }
    writeCntCtrl v s = (s.setCntCfg cfg).setCnt (s.cnt.armedAt cfg s.nowUs) := by
  intro cfg
  rw [← Counter.arm_eq_armedAt]
  exact if_pos h

/-- Settles O24, by the ARM bit. -/
theorem writeCntCtrlArms : Obligations.WriteCntCtrlArms := by
  intro v s cfg
  refine ⟨rfl, fun h => ?_, fun h => ?_⟩
  · rw [exec_wrCntCtrl, writeCntCtrl_of_no_arm h]
    rfl
  · rw [exec_wrCntCtrl, writeCntCtrl_of_arm h]
    rfl

/-- The minimum interval in exact integers (R164). -/
theorem intervalFor_toNat {est : Word} (h : est ≠ 0) (frac : Half) :
    (intervalFor est frac).toNat =
      min (max 1 (frac.toNat * 10 ^ 10 / (65536 * est.toNat))) (2 ^ 32 - 1) := by
  rw [intervalFor, if_neg h, clamp32_eq_sat32, sat32_toNat]

/-- Settles O26: the interval written is R164's for the stored fraction and the estimate in force. -/
theorem writeCntFracRecomputesInterval : Obligations.WriteCntFracRecomputesInterval := by
  intro v s
  refine ⟨intervalFor s.cnt.estX1e4 (vLow16 v), rfl, ?_, fun h => if_pos h, fun h => ?_⟩
  · rw [← minIntervalOf_eq]
    rfl
  · rw [intervalFor_toNat h, vLow16_toNat]

/-- Settles O27: each write is one setter of the state and an acknowledge. -/
theorem writeCntPpmAndIntEnStore : Obligations.WriteCntPpmAndIntEnStore :=
  fun _ _ => ⟨rfl, rfl, rfl, rfl⟩

/-! ## SIG (R170 to R175) -/

theorem exec_evSigHigh (s : State) : exec .evSigHigh s = .next (noResponse (sigHigh s)) := rfl

theorem sigHigh_of_high (h : s.cnt.sigLevel = true) : sigHigh s = s := if_pos h

/-- The state with the SIG level at 1, in which a rising SIG is judged (R170). -/
def State.sigRaised (s : State) : State := s.setCnt { s.cnt with sigLevel := true }

/-- A rising SIG is an active edge at the present time (R170). -/
theorem sigHigh_of_low (h : s.cnt.sigLevel = false) : sigHigh s = onEdge s.nowUs s.sigRaised :=
  if_neg (Bool.eq_false_iff.1 h)

theorem onEdge_of_idle (t : Stamp) (h : s.cnt.armed = false) : onEdge t s = s :=
  if_neg (Bool.eq_false_iff.1 h)

/-- Settles O33; of these events only a rising SIG is more than a setter, and an idle counter ignores it. -/
theorem levelEventsWithoutCountedEdge : Obligations.LevelEventsWithoutCountedEdge := by
  refine ⟨rfl, rfl, rfl, rfl, fun s => ⟨rfl, rfl, rfl, fun h => ?_, fun h ha => ?_⟩⟩
  · rw [exec_evSigHigh, sigHigh_of_high h]
    rfl
  · rw [exec_evSigHigh, sigHigh_of_low h, onEdge_of_idle (s := s.sigRaised) _ ha]
    rfl

/-- A qualifying edge that closes nothing (R174). -/
theorem qualifyingEdge_of_below (t : Stamp)
    (h : s.cnt.mode = .gated ∨ (satInc s.cnt.pulses).toNat < s.cnt.target.toNat) :
    qualifyingEdge t s = s.setCnt (s.cnt.countPulse t) := by
  refine if_neg fun ⟨hm, ht⟩ => ?_
  obtain hg | hlt := h
  · exact absurd (hm.symm.trans hg) nofun
  · exact absurd hlt (Nat.not_lt.2 ht)

/-- A qualifying edge that reaches the RECIP target (R174). -/
theorem qualifyingEdge_of_reached (t : Stamp) (hm : s.cnt.mode = .recip)
    (ht : s.cnt.target.toNat ≤ (satInc s.cnt.pulses).toNat) :
    qualifyingEdge t s = closeWindow .target t (s.setCnt (s.cnt.countPulse t)) :=
  if_pos ⟨hm, ht⟩

/-- The glitch test of R171 on the exact difference, and without a subtraction as the model makes it. -/
theorem glitch_iff (seen : Prop) (now fin interval : Nat) :
    (seen ∧ (now : Int) - fin < interval) ↔ (seen ∧ now < fin + interval) :=
  and_congr_right fun _ => by omega

/-- Settles O34: the three ways of R171 to R174, after the level and the raw count have moved. -/
theorem edgeOpensRejectsOrCounts : Obligations.EdgeOpensRejectsOrCounts := by
  intro s hsig ha raw glitch pulses
  rw [exec_evSigHigh, sigHigh_of_low hsig]
  refine ⟨fun hw => ?_, fun hw hg => ?_, fun hw hg hbelow => ?_⟩
  · rw [onEdge_reference s.sigRaised _ ha hw]
    rfl
  · rw [onEdge_glitch s.sigRaised _ ha hw ((glitch_iff _ _ _ _).1 hg)]
    rfl
  · rw [onEdge_qualifies s.sigRaised _ ha hw (mt (glitch_iff _ _ _ _).2 hg), qualifyingEdge_of_below]
    · rfl
    · exact hbelow

theorem satInc_ne_zero (w : Word) : satInc w ≠ 0 := fun h =>
  absurd (satInc_pos w) (by rw [h]; decide)

/-- Settles O35: the counted pulse is not 0, so R179's test asks only for elapsed time. -/
theorem recipTargetClosesWindow : Obligations.RecipTargetClosesWindow := by
  intro s hsig ha hw hm hg ht u
  rw [exec_evSigHigh, sigHigh_of_low hsig, onEdge_qualifies s.sigRaised _ ha hw (mt (glitch_iff _ _ _ _).2 hg),
    qualifyingEdge_of_reached (s := s.sigRaised.setCnt { s.sigRaised.cnt with raw := _ }) _ hm ht]
  refine ⟨fun hne => ?_, fun heq => ?_⟩
  · rw [closeWindow_emits]
    · rfl
    · exact ⟨hw, satInc_ne_zero _, hne⟩
  · rw [closeWindow_discards]
    · rfl
    · exact fun ⟨_, _, hne⟩ => hne heq

/-! ## SYNC (R176, R177) -/

theorem exec_evSyncHigh (s : State) : exec .evSyncHigh s = .next (noResponse (syncHigh s)) := rfl

/-- A rising SYNC arms the counter and opens a forced window (R176). -/
theorem syncHigh_of_low (h : s.cnt.syncLevel = false) :
    syncHigh s = s.setCnt { s.cnt.armedAt s.cntCfg s.nowUs with
      syncLevel := true, windowOpen := true, syncForced := true, edgeSeen := false, startUs := s.nowUs,
      endUs := s.nowUs } := by
  rw [syncHigh, if_neg (Bool.eq_false_iff.1 h), Counter.syncRestart, Counter.arm_eq_armedAt]
  rfl

theorem syncHigh_of_high (h : s.cnt.syncLevel = true) : syncHigh s = s := if_pos h

/-- Settles O36, by the level before the event. -/
theorem syncRisingForcesWindow : Obligations.SyncRisingForcesWindow := by
  refine ⟨rfl, fun s => ⟨fun h => ?_, fun h => ?_⟩⟩
  · rw [exec_evSyncHigh, syncHigh_of_high h]
    rfl
  · rw [exec_evSyncHigh, syncHigh_of_low h]
    rfl

theorem exec_evSyncLow (s : State) : exec .evSyncLow s = .next (noResponse (syncLow s)) := rfl

theorem syncLow_of_low (h : s.cnt.syncLevel = false) : syncLow s = s := if_neg (Bool.eq_false_iff.1 h)

/-- A falling SYNC with no open window to close sets the level (R177). -/
theorem syncLow_of_no_window (h : s.cnt.syncLevel = true)
    (hw : ¬ (s.cnt.armed = true ∧ s.cnt.windowOpen = true)) :
    syncLow s = s.setCnt { s.cnt with syncLevel := false } :=
  (if_pos h).trans (if_neg hw)

/-- A falling SYNC closes an armed counter's open window (R177). -/
theorem syncLow_of_window (h : s.cnt.syncLevel = true) (ha : s.cnt.armed = true)
    (hw : s.cnt.windowOpen = true) :
    syncLow s = closeWindow .sync s.nowUs (s.setCnt { s.cnt with syncLevel := false }) :=
  (if_pos h).trans (if_pos ⟨ha, hw⟩)

/-- Settles O37, by the level, the open window and R179's test; the level plays no part in that test. -/
theorem syncFallingClosesWindow : Obligations.SyncFallingClosesWindow := by
  refine ⟨rfl, fun s => ⟨fun h => ?_, fun h hw => ?_, fun h ha hw hc => ?_, fun h ha hw hc => ?_⟩⟩
  · rw [exec_evSyncLow, syncLow_of_low h]
    rfl
  · rw [exec_evSyncLow, syncLow_of_no_window h hw]
    rfl
  · rw [exec_evSyncLow, syncLow_of_window h ha hw, closeWindow_emits]
    · rfl
    · exact hc
  · rw [exec_evSyncLow, syncLow_of_window h ha hw, closeWindow_discards]
    · rfl
    · exact hc

/-- Settles O25: an arm and a SYNC restart both copy the stored value through `effectiveWindow`. -/
theorem writeCntWindowTakesEffectAtArm : Obligations.WriteCntWindowTakesEffectAtArm := by
  intro v a s
  have hused : (effectiveWindow (vLow16 v)).toNat = max 1 (v.toNat % 2 ^ 16) := by
    rw [effectiveWindow_toNat, vLow16_toNat]
  refine ⟨rfl, rfl, fun ha => ⟨_, rfl, ?_⟩, fun hl => ⟨_, rfl, ?_⟩⟩
  · rw [writeCntCtrl_of_arm ha]
    exact ⟨vLow16_toNat v, hused⟩
  · rw [syncHigh_of_low]
    · exact ⟨vLow16_toNat v, hused⟩
    · exact hl

end Sys2Proof.Machine
end

section
/-! The alarm of a GATED measurement and the TICK that reaches it (40_counter.md R178 to R181;
44_timebase_irq.md R360). -/

namespace Sys2Proof.Machine

variable {s t : State}

/-! ## The TICK that reaches the alarm -/

theorem exec_evTick (s : State) : exec .evTick s = .next (noResponse (tick s)) := rfl

/-- Time has advanced when the window closes, and the engine is ticked after it. -/
theorem tick_of_due (h : s.alarmDue) :
    noResponse (tick s) =
      if s.closeEmits then (s.ticked (s.sw.tick s.params)).emitted true
      else (s.ticked (s.sw.tick s.params)).discarded (s.nowUs + 1) := by
  have hclose := alarmCheck_of_due s h
  by_cases hc : s.closeEmits
  · rw [closeWindow_emits (s.setNow (s.nowUs + 1)) _ _ hc] at hclose
    rw [if_pos hc, tick, hclose]
    rfl
  · rw [closeWindow_discards (s.setNow (s.nowUs + 1)) _ _ hc] at hclose
    rw [if_neg hc, tick, hclose]
    rfl

theorem Engine.tick_of_idle {e : Engine} (p : Config.Params) (h : e.busy = false) : e.tick p = e :=
  if_neg (Bool.eq_false_iff.1 h)

/-- Settles O39: an idle engine has no part in the TICK. -/
theorem tickFiresAlarm : Obligations.TickFiresAlarm := by
  intro s hdue hidle
  rw [exec_evTick, tick_of_due hdue, Engine.tick_of_idle _ hidle]
  exact ⟨fun hc => by rw [if_pos hc], fun hc => by rw [if_neg hc]⟩

/-! ## The TICKs before it -/

/-- `n` microseconds have passed, and all that a close would look at is as before. -/
structure OnlyTimePassed (n : Nat) (s t : State) : Prop where
  now : t.nowUs.toNat = s.nowUs.toNat + n
  cnt : t.cnt = s.cnt
  cntCfg : t.cntCfg = s.cntCfg
  params : t.params = s.params
  rq : t.rq = s.rq

theorem OnlyTimePassed.closeEmits_iff {n : Nat} (h : OnlyTimePassed n s t) :
    t.closeEmits ↔ s.closeEmits := by
  rw [State.closeEmits, h.cnt]

theorem OnlyTimePassed.emitted {n : Nat} (h : OnlyTimePassed n s t) (timeout : Bool) :
    (t.emitted timeout).cnt = (s.emitted timeout).cnt ∧
      (t.emitted timeout).rq = (s.emitted timeout).rq := by
  simp only [State.emitted, State.windowRecord, h.cnt, h.cntCfg, h.params, h.rq, and_self]

/-- A TICK before the alarm is due moves time on and leaves the measurement alone. -/
theorem onlyTimePassed_tick (hnot : ¬ s.alarmDue) (hwrap : s.nowUs.toNat + 1 < 2 ^ 64) :
    OnlyTimePassed 1 s (noResponse (tick s)) := by
  rw [tick_of_not_due s hnot]
  exact ⟨toNat_add_one_of_no_wrap hwrap, rfl, rfl, rfl, rfl⟩

theorem performAll_append (is js : List Instr) (s t : State) (h : performAll is s = .next t) :
    performAll (is ++ js) s = performAll js t := by
  induction is generalizing s with
  | nil =>
    cases h
    rfl
  | cons i is ih =>
    simp only [List.cons_append, performAll] at h ⊢
    split at h
    · exact ih _ h
    · cases h
    · cases h

theorem performAll_ticks_succ {n : Nat} (h : performAll (ticks n) s = .next t) :
    performAll (ticks (n + 1)) s = .next (noResponse (tick t)) := by
  rw [ticks, List.replicate_succ']
  exact performAll_append _ _ _ _ h

/-- Time passes alone as long as the alarm stays ahead. -/
theorem ticks_before_alarm (s : State) (n : Nat) (h : s.nowUs.toNat + n < s.cnt.alarmUs.toNat) :
    ∃ t, performAll (ticks n) s = .next t ∧ OnlyTimePassed n s t := by
  induction n with
  | zero => exact ⟨s, rfl, rfl, rfl, rfl, rfl, rfl⟩
  | succ n ih =>
    obtain ⟨t, hrun, ht⟩ := ih (by omega)
    have halarm := s.cnt.alarmUs.isLt
    have hnow := ht.now
    have hstep : OnlyTimePassed 1 t (noResponse (tick t)) := by
      refine onlyTimePassed_tick (fun ⟨_, _, hdue⟩ => ?_) (by omega)
      rw [toNat_add_one_of_no_wrap (by omega), ht.cnt] at hdue
      omega
    exact ⟨_, performAll_ticks_succ hrun, by rw [hstep.now, hnow, Nat.add_assoc], hstep.cnt.trans ht.cnt,
      hstep.cntCfg.trans ht.cntCfg, hstep.params.trans ht.params, hstep.rq.trans ht.rq⟩

/-- Settles O59: the `n` TICKs before the deadline leave the measurement alone, and the next one finds the
alarm due. -/
theorem gatedAlarmFiresOnTime : Obligations.GatedAlarmFiresOnTime := by
  intro s n harmed hpending halarm
  obtain ⟨t, hrun, ht⟩ := ticks_before_alarm s n (by omega)
  have hnow : t.nowUs + 1 = s.cnt.alarmUs := by
    have := s.cnt.alarmUs.isLt
    have := ht.now
    exact BitVec.eq_of_toNat_eq (by rw [toNat_add_one_of_no_wrap (by omega)]; omega)
  have hdue : t.alarmDue := by
    rw [State.alarmDue, ht.cnt, hnow]
    exact ⟨harmed, hpending, Nat.le_refl _⟩
  refine ⟨⟨t, hrun, ht.cnt, ht.rq, ht.now⟩, _, performAll_ticks_succ hrun, ?_, fun hc => ?_, fun hc => ?_⟩
  · rw [tick_of_due hdue]
    split <;> exact hnow
  · rw [tick_of_due hdue, if_pos (ht.closeEmits_iff.2 hc)]
    exact ht.emitted true
  · rw [tick_of_due hdue, if_neg (mt ht.closeEmits_iff.1 hc), hnow]
    exact ⟨by simp only [State.discarded, State.ticked, ht.cnt], ht.rq⟩

end Sys2Proof.Machine
end

section
/-! The raw count accounts for every edge of a window (40_counter.md R168, R171 to R174, R184). -/

namespace Sys2Proof.Machine

variable {s u : State} {c : Counter}

/-- R184's equation in an open window, and no count without one. -/
def Counter.Accounted (c : Counter) : Prop := c.RawAccounts ∧ c.ClosedIsUncounted

/-- The equation reads the counts, the forced flag and whether a window is open. -/
theorem Counter.Accounted.congr {d : Counter} (h : c.Accounted) (ho : d.windowOpen = c.windowOpen)
    (hr : d.raw = c.raw) (hp : d.pulses = c.pulses) (hg : d.glitch = c.glitch)
    (hf : d.syncForced = c.syncForced) : d.Accounted := by
  rwa [Counter.Accounted, Counter.RawAccounts, Counter.ClosedIsUncounted, ho, hr, hp, hg, hf]

/-- A cleared window has counted nothing (R168). -/
theorem Counter.clearWindow_accounted (c : Counter) : c.clearWindow.Accounted :=
  ⟨nofun, fun _ => ⟨rfl, rfl, rfl, rfl⟩⟩

/-! ## The counter's procedures -/

theorem Counter.arm_accounted (cfg : CounterConfig) (t : Stamp) (c : Counter) : (c.arm cfg t).Accounted := by
  rw [Counter.arm_eq]
  exact c.clearWindow_accounted.congr rfl rfl rfl rfl rfl

/-- A forced window opens with no edge counted (R176). -/
theorem Counter.syncRestart_accounted (cfg : CounterConfig) (t : Stamp) (c : Counter) :
    (c.syncRestart cfg t).Accounted := by
  rw [Counter.syncRestart, Counter.arm_eq]
  exact ⟨fun _ _ => rfl, nofun⟩

theorem Counter.discard_accounted (t : Stamp) (c : Counter) : (c.discard t).Accounted := by
  rw [Counter.discard_eq]
  exact c.clearWindow_accounted.congr rfl rfl rfl rfl rfl

theorem Counter.afterEmit_accounted (cfg : CounterConfig) (f : Word) (c : Counter) :
    (c.afterEmit cfg f).Accounted :=
  c.clearWindow_accounted.congr rfl rfl rfl rfl rfl

/-- A close ends in a cleared window, whatever was counted. -/
theorem closeWindow_accounted (cause : Cause) (t : Stamp) (s : State) :
    (closeWindow cause t s).cnt.Accounted := by
  rcases closeWindow_cases cause t s with ⟨h, -⟩ | ⟨h, -⟩ <;> rw [h]
  · exact Counter.discard_accounted _ _
  · exact Counter.afterEmit_accounted _ _ _

/-- The reference edge is counted in the raw count alone (R172). -/
theorem Counter.Accounted.referenceEdge (h : c.Accounted) (ho : c.windowOpen = false) (t : Stamp) :
    ({ c with raw := satInc c.raw }.referenceEdge t).Accounted := by
  obtain ⟨hraw, hpulses, hglitch, hforced⟩ := h.2 ho
  refine ⟨fun _ _ => ?_, nofun⟩
  simp only [Counter.referenceEdge, hraw, hpulses, hglitch, hforced]
  rfl

/-- One more edge, counted once in the raw count and once as a pulse or a glitch, while the raw count has not
saturated. -/
theorem Counter.Accounted.countEdge {p g : Word} (h : c.Accounted) (ho : c.windowOpen = true)
    (hpg : c.raw.toNat < 2 ^ 32 - 1 → p.toNat + g.toNat = c.pulses.toNat + c.glitch.toNat + 1) :
    ({ c with raw := satInc c.raw, pulses := p, glitch := g }).Accounted := by
  refine ⟨fun _ hlt => ?_, fun hc => absurd (ho.symm.trans hc) nofun⟩
  simp only [satInc_toNat] at hlt ⊢
  have hold := h.1 ho (by omega)
  have hnew := hpg (by omega)
  omega

theorem Counter.Accounted.glitchEdge (h : c.Accounted) (ho : c.windowOpen = true) :
    ({ c with raw := satInc c.raw, glitch := satInc c.glitch }).Accounted := by
  refine h.countEdge ho fun hlt => ?_
  have hold := h.1 ho hlt
  rw [satInc_toNat]
  omega

theorem Counter.Accounted.pulseEdge (h : c.Accounted) (ho : c.windowOpen = true) (t : Stamp) :
    ({ c with raw := satInc c.raw }.countPulse t).Accounted := by
  refine (h.countEdge (p := satInc c.pulses) (g := c.glitch) ho fun hlt => ?_).congr rfl rfl rfl rfl rfl
  have hold := h.1 ho hlt
  rw [satInc_toNat]
  omega

/-- Every way an edge can go keeps the account (R171 to R174). -/
theorem onEdge_accounted (t : Stamp) (h : s.cnt.Accounted) : (onEdge t s).cnt.Accounted := by
  rcases onEdge_cases t s with ⟨-, he⟩ | ⟨-, ho, he⟩ | ⟨-, ho, -, he⟩ | ⟨-, ho, -, he⟩ <;> rw [he]
  · exact h
  · exact h.referenceEdge ho t
  · exact h.glitchEdge ho
  · rcases qualifyingEdge_cases t (s.setCnt { s.cnt with raw := satInc s.cnt.raw }) with
      ⟨-, -, hq⟩ | ⟨-, hq⟩ <;> rw [hq]
    · exact closeWindow_accounted _ _ _
    · exact h.pulseEdge ho t

theorem alarmCheck_accounted (h : s.cnt.Accounted) : (alarmCheck s).cnt.Accounted := by
  rcases alarmCheck_cases s with ⟨-, -, -, he⟩ | ⟨-, he⟩ <;> rw [he]
  · exact closeWindow_accounted _ _ _
  · exact h

/-! ## Every operation -/

theorem writeCntCtrl_accounted (v : Word) (h : s.cnt.Accounted) : (writeCntCtrl v s).cnt.Accounted := by
  obtain ⟨cfg, he | he⟩ := writeCntCtrl_cases v s <;> rw [he]
  · exact h
  · exact Counter.arm_accounted _ _ _

theorem sigHigh_accounted (h : s.cnt.Accounted) : (sigHigh s).cnt.Accounted := by
  obtain he | he := sigHigh_cases s <;> rw [he]
  · exact h
  · exact onEdge_accounted _ (h.congr rfl rfl rfl rfl rfl)

theorem syncHigh_accounted (h : s.cnt.Accounted) : (syncHigh s).cnt.Accounted := by
  obtain he | he := syncHigh_cases s <;> rw [he]
  · exact h
  · exact Counter.syncRestart_accounted _ _ _

theorem syncLow_accounted (h : s.cnt.Accounted) : (syncLow s).cnt.Accounted := by
  obtain he | he | ⟨-, he⟩ := syncLow_cases s <;> rw [he]
  · exact h
  · exact h.congr rfl rfl rfl rfl rfl
  · exact closeWindow_accounted _ _ _

theorem Effect.accounted {i : Instr} (he : Effect s i u) (h : s.cnt.Accounted) : u.cnt.Accounted := by
  cases he with
  | cntCtrl v => exact writeCntCtrl_accounted v h
  | cntFrac v => exact h.congr rfl rfl rfl rfl rfl
  | sigHigh => exact sigHigh_accounted h
  | sigLow => exact h.congr rfl rfl rfl rfl rfl
  | syncHigh => exact syncHigh_accounted h
  | syncLow => exact syncLow_accounted h
  | tick => exact alarmCheck_accounted (s := s.setNow (s.nowUs + 1)) h
  | reset => exact Counter.clearWindow_accounted Counter.reset
  | _ => exact h

/-- Settles O49: kept by every effect, and the reset counter is a cleared one. -/
theorem rawCountAccountsForEveryEdge : Obligations.RawCountAccountsForEveryEdge := by
  refine ⟨fun i s t hraw hclosed hexec => ?_, fun _ => Counter.clearWindow_accounted Counter.reset⟩
  obtain ⟨u, r, he, rfl⟩ := exec_effect hexec
  exact he.accounted ⟨hraw, hclosed⟩

/-- Settles O48, by the invariants of the reset state that O47 needs for EV.RESET. -/
theorem resetHasInvariants : Obligations.ResetHasInvariants := State.Inv.reset

end Sys2Proof.Machine
end

section
/-! What enters the result queue (40_counter.md R179, R181, R183; 43_queues.md R321, R322). -/

namespace Sys2Proof.Machine

variable {s u : State}

/-- The result queue is as before, or has been given a record of pulses and elapsed time with the timeout
flag `timeout`. -/
def GainsResult (timeout : Bool) (s t : State) : Prop :=
  t.rq = s.rq ∨ ∃ r : ResultRec, t.rq = s.rq.push s.params.rqDepth r ∧ r.pulses ≠ 0 ∧ r.elapsedUs ≠ 0 ∧
    r.timeout = timeout

/-- R179's test is what an emitted record has passed, and its flag says whether the alarm closed it. -/
theorem closeWindow_gains (cause : Cause) (t : Stamp) (s : State) :
    GainsResult (decide (cause = .alarm)) s (closeWindow cause t s) := by
  rcases closeWindow_cases cause t s with ⟨h, -⟩ | ⟨h, -, hp, he⟩ <;> rw [h]
  · exact .inl rfl
  · exact .inr ⟨_, rfl, hp, he, rfl⟩

theorem qualifyingEdge_gains (t : Stamp) (s : State) : GainsResult false s (qualifyingEdge t s) := by
  rcases qualifyingEdge_cases t s with ⟨-, -, h⟩ | ⟨-, h⟩ <;> rw [h]
  · exact closeWindow_gains .target t (s.setCnt _)
  · exact .inl rfl

theorem onEdge_gains (t : Stamp) (s : State) : GainsResult false s (onEdge t s) := by
  rcases onEdge_cases t s with ⟨-, h⟩ | ⟨-, -, h⟩ | ⟨-, -, -, h⟩ | ⟨-, -, -, h⟩ <;> rw [h]
  · exact .inl rfl
  · exact .inl rfl
  · exact .inl rfl
  · exact qualifyingEdge_gains t (s.setCnt _)

theorem sigHigh_gains (s : State) : GainsResult false s (sigHigh s) := by
  obtain h | h := sigHigh_cases s <;> rw [h]
  · exact .inl rfl
  · exact onEdge_gains s.nowUs (s.setCnt _)

theorem syncLow_gains (s : State) : GainsResult false s (syncLow s) := by
  obtain h | h | ⟨-, h⟩ := syncLow_cases s <;> rw [h]
  · exact .inl rfl
  · exact .inl rfl
  · exact closeWindow_gains .sync s.nowUs (s.setCnt _)

theorem alarmCheck_gains (s : State) : GainsResult true s (alarmCheck s) := by
  rcases alarmCheck_cases s with ⟨-, -, -, h⟩ | ⟨-, h⟩ <;> rw [h]
  · exact closeWindow_gains .alarm s.nowUs s
  · exact .inl rfl

theorem tick_gains (s : State) : GainsResult true s (tick s) := alarmCheck_gains (s.setNow (s.nowUs + 1))

/-- Only a TICK, an edge and a falling SYNC give the queue a record, the first with the timeout flag. -/
theorem Effect.gains {i : Instr} (he : Effect s i u)
    (hi : i ∈ [Instr.evTick, .evSigHigh, .evSyncLow]) : GainsResult (decide (i = .evTick)) s u := by
  cases he with
  | tick => exact tick_gains s
  | sigHigh => exact sigHigh_gains s
  | syncLow => exact syncLow_gains s
  | quiet => exact .inl rfl
  | _ => simp at hi

/-- Settles O52: of the operations that move the entries a POP drops one, and the three that close a window
push a record that passed R179's test. -/
theorem emittedResultsHavePulsesAndTime : Obligations.EmittedResultsHavePulsesAndTime := by
  intro i s t hexec hne
  by_cases hr : i = .evReset
  · exact .inl hr
  obtain ⟨u, x, he, rfl⟩ := exec_effect hexec
  obtain h | ⟨v, rfl, h⟩ | ⟨v, -, h⟩ | hi := he.rq_cases hr
  · exact absurd (congrArg Queue.entries h) hne
  · refine .inr (.inl ⟨v, rfl, ?_⟩)
    rw [State.setResponse_rq, h, Queue.pop_entries, List.drop_one]
  · exact absurd (congrArg Queue.entries h) hne
  · obtain h | ⟨r, h, hp, ht, htimeout⟩ := he.gains hi
    · exact absurd (congrArg Queue.entries h) hne
    · refine .inr (.inr ⟨r, ?_, hp, ht, by rw [htimeout, decide_eq_true_iff]⟩)
      rw [State.setResponse_rq, h, Queue.push_entries, List.drop_one]

end Sys2Proof.Machine
end

section
/-! The single-wire engine's registers and the waits of its process, one TICK at a time (41_single_wire.md R231
to R245; 44_timebase_irq.md R360). -/

namespace Sys2Proof.Machine

variable {s : State} {e : Engine} {p : Config.Params}

/-! ## The configuration registers (R243 to R245) -/

theorem exec_wrSwBitrate (v : Word) (s : State) : exec (.wrSwBitrate v) s =
    .next (acknowledge (if s.sw.busy then s else s.setSwCfg { s.swCfg with bitrate := v })) := rfl

theorem exec_wrSwAddr (v : Word) (s : State) : exec (.wrSwAddr v) s =
    .next (acknowledge (if s.sw.busy then s else s.setSwCfg { s.swCfg with addr := vLow16 v })) := rfl

theorem exec_wrSwLen (v : Word) (s : State) : exec (.wrSwLen v) s =
    .next (acknowledge (if s.sw.busy then s else s.setSwCfg { s.swCfg with len := vLow16 v })) := rfl

/-- Settles O29, by BUSY, which guards the three writes alike. -/
theorem singleWireConfigurationStoresUnlessBusy : Obligations.SingleWireConfigurationStoresUnlessBusy := by
  refine fun v s => ⟨rfl, rfl, rfl, fun hb i hi => ?_, fun hb => ?_⟩
  · simp only [List.mem_cons, List.not_mem_nil, or_false] at hi
    obtain rfl | rfl | rfl := hi
    · rw [exec_wrSwBitrate, if_pos hb]; rfl
    · rw [exec_wrSwAddr, if_pos hb]; rfl
    · rw [exec_wrSwLen, if_pos hb]; rfl
  · rw [exec_wrSwBitrate, exec_wrSwAddr, exec_wrSwLen]
    simp only [if_neg (Bool.eq_false_iff.1 hb)]
    exact ⟨rfl, rfl, rfl⟩

/-! ## WR.SW_CTRL (R235, R236) -/

theorem exec_wrSwCtrl (v : Word) (s : State) : exec (.wrSwCtrl v) s =
    .next (acknowledge (s.setSw (writeSwCtrl s.params s.swCfg v s.sw))) := rfl

/-- The engine after CLR_DONE, bit 1 of the value written (R235). -/
def Engine.doneCleared (v : Word) (e : Engine) : Engine :=
  { e with done := if v.getLsbD 1 then false else e.done }

/-- CLR_DONE comes first, and START looks at BUSY, which CLR_DONE leaves alone (R235). -/
theorem writeSwCtrl_eq (p : Config.Params) (cfg : EngineConfig) (v : Word) (e : Engine) :
    writeSwCtrl p cfg v e =
      if v.getLsbD 0 ∧ e.busy = false then (e.doneCleared v).startTransaction p cfg
      else e.doneCleared v := by
  unfold writeSwCtrl Engine.doneCleared vBit0 vBit1
  cases v.getLsbD 1 <;> rfl

/-- Without START, or on a busy engine, only CLR_DONE takes effect (R235). -/
theorem writeSwCtrl_of_not_started {v : Word} (cfg : EngineConfig)
    (h : v.getLsbD 0 = false ∨ e.busy = true) : writeSwCtrl p cfg v e = e.doneCleared v := by
  rw [writeSwCtrl_eq, if_neg]
  rintro ⟨hstart, hidle⟩
  obtain h | h := h
  · exact absurd (h.symm.trans hstart) nofun
  · exact absurd (hidle.symm.trans h) nofun

/-- START of an idle engine (R235). -/
theorem writeSwCtrl_of_started {v : Word} (cfg : EngineConfig) (hstart : v.getLsbD 0 = true)
    (hidle : e.busy = false) : writeSwCtrl p cfg v e = (e.doneCleared v).startTransaction p cfg := by
  rw [writeSwCtrl_eq, if_pos ⟨hstart, hidle⟩]

/-- The engine as a START leaves it that begins a transaction of length `n` (R236, R237). -/
def Engine.latchedFor (cfg : EngineConfig) (n : Nat) (e : Engine) : Engine :=
  { e with done := false, busy := true, a := cfg.addr, l := BitVec.ofNat 16 n, d := Config.probeFirst,
           h := halfUs cfg.bitrate }

theorem Engine.startTransaction_of_range {cfg : EngineConfig} (h : 0x200 ≤ cfg.addr.toNat) :
    e.startTransaction p cfg = { e with done := false }.ended .range 0 0 := by
  rw [← Engine.finish_eq_ended]
  exact if_pos h

theorem Engine.startTransaction_of_empty {cfg : EngineConfig} (h : cfg.addr.toNat < 0x200)
    (hn : clampedLength p cfg = 0) :
    e.startTransaction p cfg = { e with done := false }.ended .ok 0 0 := by
  rw [← Engine.finish_eq_ended]
  exact (if_neg (Nat.not_le.2 h)).trans (if_pos hn)

theorem Engine.startTransaction_of_length {cfg : EngineConfig} (h : cfg.addr.toNat < 0x200)
    (hn : clampedLength p cfg ≠ 0) :
    e.startTransaction p cfg = (e.latchedFor cfg (clampedLength p cfg)).inStandby p :=
  (if_neg (Nat.not_le.2 h)).trans (if_neg hn)

/-- Settles O30: CLR_DONE first, then the three outcomes of a START. -/
theorem singleWireControlStarts : Obligations.SingleWireControlStarts := by
  intro v s cleared started n
  refine ⟨rfl, fun h => ?_, fun hstart hidle => ?_⟩
  · rw [exec_wrSwCtrl, writeSwCtrl_of_not_started s.swCfg h]
    rfl
  · rw [exec_wrSwCtrl, writeSwCtrl_of_started s.swCfg hstart hidle]
    refine ⟨fun ha => ?_, fun ha hn => ?_, fun ha hn => ?_⟩
    · rw [Engine.startTransaction_of_range ha]
      rfl
    · rw [Engine.startTransaction_of_empty ha hn]
      rfl
    · rw [Engine.startTransaction_of_length ha hn, Engine.latchedFor, halfUs_eq]
      rfl

/-! ## The engine in a TICK (R240, R360) -/

/-- The engine as a process finds it that is resumed: its wait at 0 (R240). -/
def Engine.expired (e : Engine) : Engine := { e with wait := 0 }

theorem Engine.tick_of_waiting (p : Config.Params) (hb : e.busy = true) (hw : e.wait ≠ 1) :
    e.tick p = { e with wait := e.wait - 1 } := by
  obtain ⟨hidle, -⟩ | ⟨-, hexp, -⟩ | ⟨-, -, h⟩ := Engine.tick_cases p e
  · exact absurd (hidle.symm.trans hb) nofun
  · exact absurd hexp hw
  · exact h

theorem Engine.tick_of_expiring (p : Config.Params) (hb : e.busy = true) (hw : e.wait = 1) :
    e.tick p = e.expired.resume p := by
  obtain ⟨hidle, -⟩ | ⟨-, -, h⟩ | ⟨-, hwait, -⟩ := Engine.tick_cases p e
  · exact absurd (hidle.symm.trans hb) nofun
  · exact h
  · exact absurd hw hwait

/-- Settles O38, by BUSY. -/
theorem tickAdvancesTimeAndWait : Obligations.TickAdvancesTimeAndWait := by
  refine fun s hnot => ⟨fun hb => ?_, fun hb hw => ?_⟩
  · rw [exec_evTick, tick_of_not_due s hnot, Engine.tick_of_idle _ hb]
  · rw [exec_evTick, tick_of_not_due s hnot, Engine.tick_of_waiting _ hb hw]

/-- A TICK in which the wait expires resumes the process. -/
theorem exec_evTick_of_waitExpires {f : Engine} (h : s.waitExpires)
    (hf : s.sw.expired.resume s.params = f) : exec .evTick s = .next (s.ticked f) := by
  obtain ⟨hnot, hb, hw⟩ := h
  rw [exec_evTick, tick_of_not_due s hnot, Engine.tick_of_expiring _ hb hw, hf]

/-! ## The wait points (R237, R240) -/

theorem Engine.rest_eq (e : Engine) :
    e.half - e.quarter = BitVec.ofNat 32 (e.h.toNat - e.h.toNat / 2) :=
  BitVec.eq_of_toNat_eq (by rw [Engine.rest_toNat, BitVec.toNat_ofNat]; omega)

section
variable (p)

/-- After the standby pulse the header pulse (R237). -/
theorem Engine.resume_of_wStby (h : e.sp = .wStby) :
    e.resume p = { e with phase := .hdr, oe := true, out := false, sp := .wHdr, wait := p.tHdr } := by
  rw [Engine.resume, h]; rfl

/-- After the header pulse the start byte (R237). -/
theorem Engine.resume_of_wHdr (h : e.sp = .wHdr) : e.resume p = e.sendingByte .start p.startByte := by
  rw [Engine.resume, h]; rfl

/-- The second half of a sent bit drives its value (R233). -/
theorem Engine.resume_of_wTx1 (h : e.sp = .wTx1) :
    e.resume p = { e with oe := true, out := e.bit, sp := .wTx2, wait := e.half } := by
  rw [Engine.resume, h]; rfl

theorem Engine.resume_of_wTx2 (h : e.sp = .wTx2) : e.resume p = e.afterTxBit := by
  rw [Engine.resume, h]

/-- The first sample of a received bit (R234). -/
theorem Engine.resume_of_wRx1 (h : e.sp = .wRx1) :
    e.resume p = { e with s1 := e.swioIn, sp := .wRx2, wait := e.half } := by
  rw [Engine.resume, h]; rfl

/-- The second sample of a received bit (R234). -/
theorem Engine.resume_of_wRx2 (h : e.sp = .wRx2) :
    e.resume p =
      { e with s2 := e.swioIn, sp := .wRx3, wait := BitVec.ofNat 32 (e.h.toNat - e.h.toNat / 2) } := by
  rw [← Engine.rest_eq, Engine.resume, h]; rfl

theorem Engine.resume_of_wRx3 (h : e.sp = .wRx3) : e.resume p = e.afterRxBit p := by
  rw [Engine.resume, h]

end

/-- Settles O41, by the wait point. -/
theorem engineWaitPointsMoveLineAndSample : Obligations.EngineWaitPointsMoveLineAndSample := by
  refine fun s h => ⟨fun hsp => ?_, fun hsp => ?_, fun hsp => ?_, fun hsp => ?_, fun hsp => ?_⟩
  · exact exec_evTick_of_waitExpires h (Engine.resume_of_wStby _ hsp)
  · exact exec_evTick_of_waitExpires h (Engine.resume_of_wHdr _ hsp)
  · exact exec_evTick_of_waitExpires h (Engine.resume_of_wTx1 _ hsp)
  · exact exec_evTick_of_waitExpires h (Engine.resume_of_wRx1 _ hsp)
  · exact exec_evTick_of_waitExpires h (Engine.resume_of_wRx2 _ hsp)

/-! ## Sent bytes (R233) -/

/-- The phases in which the master sends a byte (R237). -/
abbrev Phase.sendsByte (ph : Phase) : Prop := ph ∈ [Phase.start, .devaddr, .cmd, .addrh, .addrl]

/-- Inside a byte the next lower bit follows, and after bit 0 what comes after the byte (R233). -/
theorem Engine.afterTxBit_of_sendsByte (h : e.phase.sendsByte) :
    e.afterTxBit = if e.k = 0 then e.afterTxByte
      else { e with k := e.k - 1 }.sendingBit (e.tx.getLsbD (e.k.toNat - 1)) := by
  simp only [Phase.sendsByte, List.mem_cons, List.not_mem_nil, or_false] at h
  obtain h | h | h | h | h := h <;> rw [Engine.afterTxBit, h] <;> rfl

theorem Engine.afterTxBit_of_last (h : e.phase.sendsByte) (hk : e.k = 0) :
    e.afterTxBit = e.afterTxByte := by
  rw [Engine.afterTxBit_of_sendsByte h, if_pos hk]

theorem Engine.afterTxBit_of_more (h : e.phase.sendsByte) (hk : e.k ≠ 0) :
    e.afterTxBit = { e with k := e.k - 1 }.sendingBit (e.tx.getLsbD (e.k.toNat - 1)) := by
  rw [Engine.afterTxBit_of_sendsByte h, if_neg hk]

/-- The quarter-period wait in the numbers of Safety.lean (R234). -/
theorem Engine.beginRxBit_eq_awaitingBit (e : Engine) : e.beginRxBit = e.awaitingBit := by
  have hquarter : e.quarter = BitVec.ofNat 32 (e.h.toNat / 2) :=
    BitVec.eq_of_toNat_eq (by rw [Engine.quarter_toNat, BitVec.toNat_ofNat]; omega)
  rw [Engine.beginRxBit_eq, hquarter]
  rfl

/-- The device address follows the start byte (R237). -/
theorem Engine.afterTxByte_of_start (h : e.phase = .start) :
    e.afterTxByte = e.sendingByte .devaddr e.d := by
  rw [Engine.afterTxByte, h]; rfl

/-- The acknowledge slot after a byte sent in DEVADDR, CMD, ADDRH and ADDRL (R237); no other phase is asked. -/
def Phase.ackSlot : Phase → Phase
  | .devaddr => .sak1
  | .cmd => .sak2
  | .addrh => .sak3
  | _ => .sak4

theorem Engine.afterTxByte_of_acknowledged (h : e.phase ∈ [Phase.devaddr, .cmd, .addrh, .addrl]) :
    e.afterTxByte = { e with phase := e.phase.ackSlot }.awaitingBit := by
  rw [← Engine.beginRxBit_eq_awaitingBit]
  simp only [List.mem_cons, List.not_mem_nil, or_false] at h
  obtain h | h | h | h := h <;> rw [Engine.afterTxByte, h] <;> rfl

/-- Settles O42: inside a byte the next bit, and after bit 0 what the phase says. -/
theorem engineSendsBytesMsbFirst : Obligations.EngineSendsBytesMsbFirst := by
  intro s h hsp e
  have hresume : s.sw.expired.resume s.params = s.sw.expired.afterTxBit := Engine.resume_of_wTx2 _ hsp
  have afterByte {f : Engine} (hph : s.sw.phase.sendsByte) (hk : s.sw.k = 0)
      (hf : s.sw.expired.afterTxByte = f) : exec .evTick s = .next (s.ticked f) :=
    exec_evTick_of_waitExpires h
      (hresume.trans ((Engine.afterTxBit_of_last (e := s.sw.expired) hph hk).trans hf))
  have acknowledged {ph : Phase} (hk : s.sw.k = 0) (hph : s.sw.phase = ph)
      (hack : ph ∈ [Phase.devaddr, .cmd, .addrh, .addrl]) :
      exec .evTick s = .next (s.ticked { e with phase := ph.ackSlot }.awaitingBit) := by
    subst hph
    exact afterByte (List.mem_cons_of_mem _ hack) hk (Engine.afterTxByte_of_acknowledged hack)
  refine ⟨fun hph hk => ?_, fun hk => ⟨fun hph => ?_, fun hph => acknowledged hk hph (by decide),
    fun hph => acknowledged hk hph (by decide), fun hph => acknowledged hk hph (by decide),
    fun hph => acknowledged hk hph (by decide)⟩⟩
  · exact exec_evTick_of_waitExpires h (hresume.trans (Engine.afterTxBit_of_more hph hk))
  · exact afterByte (by rw [hph]; decide) hk (Engine.afterTxByte_of_start hph)

/-! ## The acknowledge slots (R234, R237, R238) -/

/-- Two equal samples are never a bit (R234). -/
theorem rxDecode_of_same (idleLevel x : Bool) :
    rxDecode idleLevel x x = if x = idleLevel then .idle else .error := by
  cases x <;> rfl

theorem rxDecode_idle (idleLevel : Bool) : rxDecode idleLevel idleLevel idleLevel = .idle := by
  rw [rxDecode_of_same, if_pos rfl]

theorem rxDecode_contention (idleLevel : Bool) : rxDecode idleLevel (!idleLevel) (!idleLevel) = .error := by
  rw [rxDecode_of_same, if_neg (Bool.not_ne_self idleLevel)]

/-- The slots SAK1 to SAK4 end in a handshake (R237). -/
theorem Engine.afterRxBit_of_sak (p : Config.Params) (h : e.phase ∈ [Phase.sak1, .sak2, .sak3, .sak4]) :
    e.afterRxBit p = e.handshake p (rxDecode p.idleLevel e.s1 e.s2) := by
  simp only [List.mem_cons, List.not_mem_nil, or_false] at h
  obtain h | h | h | h := h <;> rw [Engine.afterRxBit, h]

/-- Probing ends after the last address (R238). -/
theorem Engine.nextAddress_of_last (h : p.probeLast.toNat < e.d.toNat + 2) :
    e.nextAddress p = e.ended .noDevice 0 0 :=
  (if_pos h).trans (Engine.finish_eq_ended _ _ _ _)

/-- Probing goes on with the next even address (R238). -/
theorem Engine.nextAddress_of_more (h : e.d.toNat + 2 ≤ p.probeLast.toNat) :
    e.nextAddress p = { e with d := e.d + 2 }.inStandby p := by
  have hd : BitVec.ofNat 8 (e.d.toNat + 2) = e.d + 2 := by
    rw [BitVec.ofNat_add, BitVec.ofNat_toNat, BitVec.setWidth_eq]; rfl
  rw [← hd]
  exact if_neg (Nat.not_lt.2 h)

section
variable (p)

theorem Engine.afterSak_of_sak1 (h : e.phase = .sak1) : e.afterSak p = e.sendingByte .cmd p.readCmd := by
  rw [Engine.afterSak, h]; rfl

theorem Engine.afterSak_of_sak2 (h : e.phase = .sak2) :
    e.afterSak p = e.sendingByte .addrh (e.a.extractLsb' 8 8) := by
  rw [Engine.afterSak, h]; rfl

theorem Engine.afterSak_of_sak3 (h : e.phase = .sak3) :
    e.afterSak p = e.sendingByte .addrl (e.a.extractLsb' 0 8) := by
  rw [Engine.afterSak, h]; rfl

theorem Engine.afterSak_of_sak4 (h : e.phase = .sak4) :
    e.afterSak p = { e with phase := .data, i := 0, k := 7 }.awaitingBit := by
  rw [← Engine.beginRxBit_eq_awaitingBit, Engine.afterSak, h]; rfl

end

/-- Settles O43, by what the two samples decode to. -/
theorem engineHandshakeDecides : Obligations.EngineHandshakeDecides := by
  intro s h hsp hph e idle
  have decides {a : RxBit} {f : Engine} (ha : rxDecode idle s.sw.s1 s.sw.s2 = a)
      (hf : s.sw.expired.handshake s.params a = f) : exec .evTick s = .next (s.ticked f) := by
    refine exec_evTick_of_waitExpires h ((Engine.resume_of_wRx3 (e := s.sw.expired) _ hsp).trans ?_)
    rw [Engine.afterRxBit_of_sak (e := s.sw.expired) _ hph, ← hf, ← ha]
    rfl
  refine ⟨fun h1 h2 => ?_, fun h1 h2 => ?_, ?_⟩
  · have accepted : rxDecode idle s.sw.s1 s.sw.s2 = .one := by rw [h1, h2]; rfl
    exact ⟨fun hsak => decides accepted (Engine.afterSak_of_sak1 _ hsak),
      fun hsak => decides accepted (Engine.afterSak_of_sak2 _ hsak),
      fun hsak => decides accepted (Engine.afterSak_of_sak3 _ hsak),
      fun hsak => decides accepted (Engine.afterSak_of_sak4 _ hsak)⟩
  · have unanswered : rxDecode idle s.sw.s1 s.sw.s2 = .idle := by rw [h1, h2, rxDecode_idle]
    exact ⟨fun hlast => decides unanswered (Engine.nextAddress_of_last hlast),
      fun hmore => decides unanswered (Engine.nextAddress_of_more hmore)⟩
  · rintro (⟨h1, h2⟩ | ⟨h1, h2⟩)
    · have zero : rxDecode idle s.sw.s1 s.sw.s2 = .zero := by rw [h1, h2]; rfl
      exact decides zero (Engine.finish_eq_ended .ioError s.sw.d 0 s.sw.expired)
    · have contention : rxDecode idle s.sw.s1 s.sw.s2 = .error := by rw [h1, h2, rxDecode_contention]
      exact decides contention (Engine.finish_eq_ended .ioError s.sw.d 0 s.sw.expired)

/-! ## The data bytes (R234, R241, R242) -/

/-- A stored bit is at its place and leaves the others (R234). -/
theorem getLsbD_setBit (x : Byte) (k : BitVec 3) (b : Bool) {n : Nat} (hn : n < 8) :
    (setBit x k b).getLsbD n = if n = k.toNat then b else x.getLsbD n := by
  obtain hlt | rfl | hgt := Nat.lt_trichotomy n k.toNat
  · simp [setBit, hn, hlt, hlt.ne]
  · simp [setBit, hn]
  · have hsub : n - k.toNat ≠ 0 := by omega
    simp [setBit, hn, hgt.ne', hsub]

theorem Memory.read_write {m : Memory} (a : Nat) (b : Byte) (h : Memory.wf m) (x : Nat) :
    Memory.read (Memory.write m a b) x = if x = a then b else Memory.read m x := by
  split
  · rename_i hx
    rw [hx, Memory.read_write_same a b h]
  · rename_i hx
    exact Memory.read_write_other m b hx

theorem Engine.afterRxBit_of_data (p : Config.Params) (h : e.phase = .data) :
    e.afterRxBit p = e.afterDataBit (rxDecode p.idleLevel e.s1 e.s2) := by
  rw [Engine.afterRxBit, h]

/-- Samples that differ are a bit, the second its value (R234). -/
theorem Engine.afterDataBit_of_bit (idleLevel b : Bool) (e : Engine) :
    e.afterDataBit (rxDecode idleLevel (!b) b) = e.storeBit b := by
  cases b <;> rfl

/-- An idle slot or contention ends the transaction with the bytes stored so far (R242). -/
theorem Engine.afterDataBit_of_same (idleLevel x : Bool) (e : Engine) :
    e.afterDataBit (rxDecode idleLevel x x) = e.ended .ioError e.d e.i := by
  rw [← Engine.finish_eq_ended, rxDecode_of_same]
  split <;> rfl

theorem Engine.storeBit_of_more (b : Bool) (h : e.k ≠ 0) :
    e.storeBit b = { e with rx := setBit e.rx e.k b, k := e.k - 1 }.awaitingBit := by
  rw [← Engine.beginRxBit_eq_awaitingBit]
  exact if_neg h

/-- The last bit stores the byte and starts the master's acknowledge (R241). -/
theorem Engine.storeBit_of_last (b : Bool) (h : e.k = 0) :
    e.storeBit b =
      { e with rx := setBit e.rx e.k b, buf := Memory.write e.buf e.i.toNat (setBit e.rx e.k b),
               phase := .mak }.sendingBit (decide (e.i.toNat + 1 < e.l.toNat)) :=
  if_pos h

/-- Settles O44, by whether the samples differ, and by the bits that remain. -/
theorem engineReceivesDataBytes : Obligations.EngineReceivesDataBytes := by
  intro s h hsp hph hwf e
  have hresume : s.sw.expired.resume s.params =
      s.sw.expired.afterDataBit (rxDecode s.params.idleLevel s.sw.s1 s.sw.s2) :=
    (Engine.resume_of_wRx3 (e := s.sw.expired) _ hsp).trans (Engine.afterRxBit_of_data _ hph)
  refine ⟨fun b h1 h2 => ?_, fun hsame => ?_⟩
  · rw [h1, h2, Engine.afterDataBit_of_bit] at hresume
    refine ⟨setBit s.sw.rx s.sw.k b, fun n hn => getLsbD_setBit _ _ _ hn, fun hk => ?_, fun hk => ?_⟩
    · exact exec_evTick_of_waitExpires h (hresume.trans (Engine.storeBit_of_more b hk))
    · exact ⟨_, Memory.wf_write _ _ hwf, Memory.read_write _ _ hwf,
        exec_evTick_of_waitExpires h (hresume.trans (Engine.storeBit_of_last b hk))⟩
  · rw [hsame, Engine.afterDataBit_of_same] at hresume
    exact exec_evTick_of_waitExpires h hresume

/-! ## The master's acknowledge (R239, R241) -/

theorem Engine.afterTxBit_of_mak (h : e.phase = .mak) : e.afterTxBit = e.afterMak := by
  rw [Engine.afterTxBit, h]

theorem Engine.afterMak_of_more (h : e.i.toNat + 1 < e.l.toNat) :
    e.afterMak = { e with phase := .data, i := e.i + 1, k := 7 }.awaitingBit := by
  rw [← Engine.beginRxBit_eq_awaitingBit]
  exact if_pos h

theorem Engine.afterMak_of_last (h : e.l.toNat ≤ e.i.toNat + 1) : e.afterMak = e.ended .ok e.d e.l := by
  rw [← Engine.finish_eq_ended]
  exact if_neg (Nat.not_lt.2 h)

/-- Settles O45, by the bytes still wanted. -/
theorem engineAcknowledgesOrFinishes : Obligations.EngineAcknowledgesOrFinishes := by
  intro s h hsp hph e
  have hresume : s.sw.expired.resume s.params = s.sw.expired.afterMak :=
    (Engine.resume_of_wTx2 (e := s.sw.expired) _ hsp).trans (Engine.afterTxBit_of_mak hph)
  exact ⟨fun hmore => exec_evTick_of_waitExpires h (hresume.trans (Engine.afterMak_of_more hmore)),
    fun hlast => exec_evTick_of_waitExpires h (hresume.trans (Engine.afterMak_of_last hlast))⟩

end Sys2Proof.Machine
end

section
/-! How long a transaction takes when no device answers (41_single_wire.md R248). -/

namespace Sys2Proof.Machine

variable {p : Config.Params} {e f : Engine}

/-! ## Spans of TICKs of a busy engine -/

/-- `n` ticks lead the engine from `e` to `f`, and it is busy before each of them. -/
inductive Engine.BusyFor (p : Config.Params) : Nat → Engine → Engine → Prop where
  | refl (e : Engine) : BusyFor p 0 e e
  | tick {n : Nat} {e f : Engine} (hb : e.busy = true) (h : BusyFor p n (e.tick p) f) : BusyFor p (n + 1) e f

theorem Engine.BusyFor.trans {n m : Nat} {g : Engine} (h : Engine.BusyFor p n e f)
    (h' : Engine.BusyFor p m f g) : Engine.BusyFor p (n + m) e g := by
  induction h with
  | refl _ => rwa [Nat.zero_add]
  | tick hb _ ih => rw [Nat.succ_add]; exact .tick hb (ih h')

/-- A wait of `n` microseconds takes `n` ticks (R240). -/
theorem Engine.busyFor_wait {n : Nat} (hb : e.busy = true) (hw : e.wait.toNat = n) (hn : 0 < n)
    (hf : e.expired.resume p = f) : Engine.BusyFor p n e f := by
  subst hf
  induction n generalizing e with
  | zero => exact absurd hn (Nat.lt_irrefl 0)
  | succ n ih =>
    refine .tick hb ?_
    obtain rfl | hpos := Nat.eq_zero_or_pos n
    · rw [Engine.tick_of_expiring p hb (BitVec.eq_of_toNat_eq hw)]
      exact .refl _
    · have hne : e.wait ≠ 1 := fun h => by rw [h] at hw; change 1 = n + 1 at hw; omega
      have hdec : (e.wait - 1).toNat = n := by
        rw [BitVec.toNat_sub_of_le (by rw [BitVec.le_def, hw]; exact Nat.le_add_left 1 n), hw]
        rfl
      rw [Engine.tick_of_waiting p hb hne]
      exact ih (e := { e with wait := e.wait - 1 }) hb hdec hpos

/-! ## An attempt that no device answers -/

/-- What an attempt keeps that stores nothing: the device, the half-bit period, the buffer and the input. -/
structure Engine.SameAttempt (e f : Engine) : Prop where
  busy : f.busy = e.busy
  h : f.h = e.h
  d : f.d = e.d
  buf : f.buf = e.buf
  swioIn : f.swioIn = e.swioIn

theorem Engine.SameAttempt.trans {g : Engine} (h : e.SameAttempt f) (h' : f.SameAttempt g) :
    e.SameAttempt g :=
  ⟨h'.busy.trans h.busy, h'.h.trans h.h, h'.d.trans h.d, h'.buf.trans h.buf, h'.swioIn.trans h.swioIn⟩

/-- A busy engine whose line nobody drives, and whose half-bit period holds a first sample (R232, R234). -/
structure Engine.Unanswered (p : Config.Params) (e : Engine) : Prop where
  busy : e.busy = true
  idle : e.swioIn = p.idleLevel
  period : 2 ≤ e.h.toNat

theorem Engine.SameAttempt.unanswered (h : e.SameAttempt f) (he : e.Unanswered p) : f.Unanswered p :=
  ⟨h.busy.trans he.busy, h.swioIn.trans he.idle, h.h ▸ he.period⟩

/-- The engine at the end of a sent bit (R233). -/
def Engine.bitSent (x : Bool) (e : Engine) : Engine :=
  { e with bit := x, oe := true, out := x, sp := .wTx2, wait := 0 }

theorem Engine.bitSent_same (x : Bool) (e : Engine) : e.SameAttempt (e.bitSent x) := ⟨rfl, rfl, rfl, rfl, rfl⟩

/-- A sent bit lasts two half-bit periods (R233). -/
theorem Engine.busyFor_sendingBit (x : Bool) (he : e.Unanswered p) :
    Engine.BusyFor p (2 * e.h.toNat) (e.sendingBit x) (e.bitSent x).afterTxBit := by
  have hpos : 0 < e.h.toNat := Nat.lt_of_lt_of_le Nat.two_pos he.period
  rw [Nat.two_mul]
  refine (Engine.busyFor_wait (e := e.sendingBit x) he.busy e.half_toNat hpos
    (Engine.resume_of_wTx1 p rfl)).trans ?_
  exact Engine.busyFor_wait he.busy e.half_toNat hpos (Engine.resume_of_wTx2 p rfl)

/-- The bits from bit `n` down to bit 0 of a sent byte (R233). -/
theorem Engine.busyFor_sendingBits {n : Nat} (x : Bool) (he : e.Unanswered p) (hph : e.phase.sendsByte)
    (hk : e.k.toNat = n) :
    ∃ f, e.SameAttempt f ∧ f.phase = e.phase ∧
      Engine.BusyFor p (2 * e.h.toNat * (n + 1)) (e.sendingBit x) f.afterTxByte := by
  have bit := Engine.busyFor_sendingBit x he
  induction n generalizing e x with
  | zero =>
    rw [Engine.afterTxBit_of_last (e := e.bitSent x) hph (BitVec.eq_of_toNat_eq hk)] at bit
    exact ⟨_, e.bitSent_same x, rfl, by rwa [Nat.zero_add, Nat.mul_one]⟩
  | succ n ih =>
    have hne : e.k ≠ 0 := fun h => by rw [h] at hk; exact absurd hk (Nat.succ_ne_zero n).symm
    have hdec : (e.k - 1).toNat = n := by
      rw [BitVec.toNat_sub_of_le (by rw [BitVec.le_def, hk]; exact Nat.le_add_left 1 n), hk]
      rfl
    rw [Engine.afterTxBit_of_more (e := e.bitSent x) hph hne] at bit
    have hnext : e.SameAttempt { e.bitSent x with k := e.k - 1 } := ⟨rfl, rfl, rfl, rfl, rfl⟩
    obtain ⟨f, hsame, hphase, rest⟩ := ih _ (hnext.unanswered he) hph hdec
      (Engine.busyFor_sendingBit _ (hnext.unanswered he))
    refine ⟨f, hnext.trans hsame, hphase, ?_⟩
    rw [Nat.mul_succ, Nat.add_comm]
    exact bit.trans rest

/-- A sent byte lasts eight bits (R233). -/
theorem Engine.busyFor_sendingByte {ph : Phase} (b : Byte) (he : e.Unanswered p) (hph : ph.sendsByte) :
    ∃ f, e.SameAttempt f ∧ f.phase = ph ∧
      Engine.BusyFor p (16 * e.h.toNat) (e.sendingByte ph b) f.afterTxByte := by
  have hbegin : e.SameAttempt { e with phase := ph, tx := b, k := 7 } := ⟨rfl, rfl, rfl, rfl, rfl⟩
  obtain ⟨f, hsame, hphase, bits⟩ :=
    Engine.busyFor_sendingBits (n := 7) (b.getLsbD 7) (hbegin.unanswered he) hph rfl
  refine ⟨f, hbegin.trans hsame, hphase, ?_⟩
  rw [show 16 * e.h.toNat = 2 * e.h.toNat * (7 + 1) by omega]
  exact bits

/-- Two idle samples in an acknowledge slot end the attempt (R234, R238). -/
theorem Engine.afterRxBit_of_idle (hph : e.phase ∈ [Phase.sak1, .sak2, .sak3, .sak4])
    (h1 : e.s1 = p.idleLevel) (h2 : e.s2 = p.idleLevel) : e.afterRxBit p = e.nextAddress p := by
  rw [Engine.afterRxBit_of_sak p hph, h1, h2, rxDecode_idle]
  rfl

/-- The engine between the two samples of a received bit (R234). -/
def Engine.firstSampled (e : Engine) : Engine :=
  { e with oe := false, s1 := e.swioIn, sp := .wRx2, wait := e.half }

/-- The engine at the end of a slot in which the input level stayed the same (R234). -/
def Engine.slotSampled (e : Engine) : Engine :=
  { e with oe := false, s1 := e.swioIn, s2 := e.swioIn, sp := .wRx3, wait := 0 }

theorem Engine.slotSampled_same (e : Engine) : e.SameAttempt e.slotSampled := ⟨rfl, rfl, rfl, rfl, rfl⟩

/-- An idle acknowledge slot lasts one bit (R234). -/
theorem Engine.busyFor_idleSlot (he : e.Unanswered p) (hph : e.phase ∈ [Phase.sak1, .sak2, .sak3, .sak4]) :
    Engine.BusyFor p (2 * e.h.toNat) e.awaitingBit (e.slotSampled.nextAddress p) := by
  have hperiod := he.period
  have hlt := e.h.isLt
  have hend : e.slotSampled.resume p = e.slotSampled.nextAddress p :=
    (Engine.resume_of_wRx3 p rfl).trans
      (Engine.afterRxBit_of_idle (e := e.slotSampled) hph he.idle he.idle)
  rw [show 2 * e.h.toNat = e.h.toNat / 2 + (e.h.toNat + (e.h.toNat - e.h.toNat / 2)) by omega]
  refine (Engine.busyFor_wait (e := e.awaitingBit) he.busy (Nat.mod_eq_of_lt (by omega)) (by omega)
    (Engine.resume_of_wRx1 p rfl)).trans ?_
  refine (Engine.busyFor_wait (e := e.firstSampled) he.busy e.half_toNat (by omega)
    (Engine.resume_of_wRx2 p rfl)).trans ?_
  exact Engine.busyFor_wait he.busy (Nat.mod_eq_of_lt (by omega)) (by omega) hend

/-- The length of an attempt that no device answers: the two pulses, sixteen bits sent and one idle slot
(R248). -/
def attemptTicks (p : Config.Params) (e : Engine) : Nat := p.tStby.toNat + p.tHdr.toNat + 34 * e.h.toNat

/-- The engine in the header pulse (R237). -/
def Engine.inHeader (p : Config.Params) (e : Engine) : Engine :=
  { e with phase := .hdr, oe := true, out := false, sp := .wHdr, wait := p.tHdr }

/-- An attempt that no device answers ends at its first acknowledge slot (R237, R248). -/
theorem Engine.busyFor_attempt (hp : p.Valid) (he : e.Unanswered p) :
    ∃ f, e.SameAttempt f ∧ Engine.BusyFor p (attemptTicks p e) (e.inStandby p) (f.nextAddress p) := by
  obtain ⟨-, -, -, ⟨hstby, hhdr⟩, -⟩ := hp
  have hheader : e.SameAttempt (e.inHeader p).expired := ⟨rfl, rfl, rfl, rfl, rfl⟩
  have pulses : Engine.BusyFor p (p.tStby.toNat + p.tHdr.toNat) (e.inStandby p)
      ((e.inHeader p).expired.sendingByte .start p.startByte) :=
    .trans (Engine.busyFor_wait he.busy rfl hstby (Engine.resume_of_wStby p rfl))
      (Engine.busyFor_wait (e := e.inHeader p) he.busy rfl hhdr (Engine.resume_of_wHdr p rfl))
  obtain ⟨f, hf, hstart, byte1⟩ :=
    Engine.busyFor_sendingByte (ph := .start) p.startByte (hheader.unanswered he) (by decide)
  rw [Engine.afterTxByte_of_start hstart] at byte1
  replace hf := hheader.trans hf
  obtain ⟨g, hg, hdev, byte2⟩ :=
    Engine.busyFor_sendingByte (ph := .devaddr) f.d (hf.unanswered he) (by decide)
  rw [Engine.afterTxByte_of_acknowledged (by rw [hdev]; decide), hdev] at byte2
  replace hg := hf.trans hg
  have hslot : e.SameAttempt { g with phase := .sak1 } := hg.trans ⟨rfl, rfl, rfl, rfl, rfl⟩
  have slot := Engine.busyFor_idleSlot (hslot.unanswered he) List.mem_cons_self
  refine ⟨_, hslot.trans (Engine.slotSampled_same _), ?_⟩
  have hsum : attemptTicks p e =
      p.tStby.toNat + p.tHdr.toNat + (16 * e.h.toNat + (16 * f.h.toNat + 2 * g.h.toNat)) := by
    rw [attemptTicks, hf.h, hg.h]
    omega
  rw [hsum]
  exact pulses.trans (byte1.trans (byte2.trans slot))

/-! ## The sweep over the device addresses (R238) -/

/-- `m` more addresses are tried after the present one, and then the transaction ends with NO_DEVICE. -/
theorem Engine.busyFor_sweep {m : Nat} (hp : p.Valid) (he : e.Unanswered p)
    (hd : e.d.toNat + 2 * m = p.probeLast.toNat) :
    ∃ f : Engine, f.buf = e.buf ∧
      Engine.BusyFor p ((m + 1) * attemptTicks p e) (e.inStandby p) (f.ended .noDevice 0 0) := by
  have hlast : p.probeLast.toNat < 2 ^ 8 := p.probeLast.isLt
  induction m generalizing e with
  | zero =>
    obtain ⟨f, hf, attempt⟩ := Engine.busyFor_attempt hp he
    rw [Engine.nextAddress_of_last (by rw [hf.d]; omega)] at attempt
    exact ⟨f, hf.buf, by rwa [Nat.zero_add, Nat.one_mul]⟩
  | succ m ih =>
    obtain ⟨f, hf, attempt⟩ := Engine.busyFor_attempt hp he
    have hnextd : (f.d + 2).toNat = e.d.toNat + 2 := by
      rw [hf.d, BitVec.toNat_add, show (2 : Byte).toNat = 2 from rfl, Nat.mod_eq_of_lt (by omega)]
    rw [Engine.nextAddress_of_more (by rw [hf.d]; omega)] at attempt
    have hnext : Engine.Unanswered p { f with d := f.d + 2 } :=
      have h := hf.unanswered he
      ⟨h.busy, h.idle, h.period⟩
    obtain ⟨g, hg, rest⟩ := ih hnext (by change (f.d + 2).toNat + 2 * m = _; omega)
    refine ⟨g, hg.trans hf.buf, ?_⟩
    have hsame : attemptTicks p { f with d := f.d + 2 } = attemptTicks p e := by
      simp only [attemptTicks, hf.h]
    rw [hsame] at rest
    rw [Nat.succ_mul, Nat.add_comm]
    exact attempt.trans rest

/-! ## From the engine to the block -/

/-- The engine's part in a TICK does not depend on the alarm (R360). -/
theorem noResponse_tick_sw (s : State) : (noResponse (tick s)).sw = s.sw.tick s.params := by
  obtain ⟨v, -, h⟩ := tick_eq s
  rw [h]
  rfl

theorem noResponse_tick_params (s : State) : (noResponse (tick s)).params = s.params :=
  (tick_own s).params

/-- The block's TICKs are the engine's, whatever the alarm does meanwhile. -/
theorem performAll_of_busyFor {n : Nat} (h : Engine.BusyFor p n e f) {s : State} (hp : s.params = p)
    (he : s.sw = e) :
    (∀ k, k < n → ∃ t, performAll (ticks k) s = .next t ∧ t.sw.busy = true) ∧
      ∃ t, performAll (ticks n) s = .next t ∧ t.sw = f := by
  induction h generalizing s with
  | refl e => exact ⟨fun k hk => absurd hk (Nat.not_lt_zero k), s, rfl, he⟩
  | tick hb _ ih =>
    obtain ⟨hbusy, hend⟩ := ih (s := noResponse (tick s)) ((noResponse_tick_params s).trans hp)
      (by rw [noResponse_tick_sw, hp, he])
    refine ⟨fun k hk => ?_, hend⟩
    cases k with
    | zero => exact ⟨s, rfl, he ▸ hb⟩
    | succ k => exact hbusy k (Nat.lt_of_succ_lt_succ hk)

/-- The half-bit period of R232 in the words of the statement. -/
theorem halfUs_toNat_eq (b : Word) :
    (halfUs b).toNat = if b = 0 then 200 else max 5 (min (500000 / b.toNat) 200) := by
  rw [halfUs_toNat]
  by_cases h : b = 0
  · rw [if_pos h, h]
    rfl
  · rw [if_neg h, if_neg (toNat_ne_zero h)]

/-- Every buffer holds a byte, and every address below 0x200 has one after it (R236). -/
theorem clampedLength_ne_zero {cfg : EngineConfig} (hp : p.Valid) (ha : cfg.addr.toNat < 0x200)
    (hl : cfg.len ≠ 0) : clampedLength p cfg ≠ 0 := by
  have hlen := toNat_ne_zero hl
  obtain ⟨-, ⟨hcap, -⟩, -⟩ := hp
  rw [clampedLength, Config.eeSize]
  omega

/-- Settles O60: START leaves the engine in the first attempt of a sweep over every probed address. -/
theorem emptySweepDuration : Obligations.EmptySweepDuration := by
  intro s hp hidle hline ha hl h n total
  have hlength := clampedLength_ne_zero hp ha hl
  set e := (s.sw.doneCleared 1).latchedFor s.swCfg (clampedLength s.params s.swCfg)
  have hstart : writeSwCtrl s.params s.swCfg 1 s.sw = e.inStandby s.params := by
    rw [writeSwCtrl_of_started s.swCfg rfl hidle, Engine.startTransaction_of_length ha hlength]
  have he : e.Unanswered s.params :=
    ⟨rfl, hline, Nat.le_trans (by decide) (halfUs_range s.swCfg.bitrate).1⟩
  obtain ⟨-, -, ⟨heven, hfirst, -⟩, -⟩ := id hp
  have hd : e.d.toNat + 2 * ((s.params.probeLast.toNat - 0xA0) / 2) = s.params.probeLast.toNat := by
    change 0xA0 ≤ _ at hfirst
    change 0xA0 + _ = _
    omega
  have htotal : n * attemptTicks s.params e = total := by
    have hh : e.h.toNat = h := halfUs_toNat_eq s.swCfg.bitrate
    rw [attemptTicks, hh]
  obtain ⟨f, hbuf, hrun⟩ := Engine.busyFor_sweep hp he hd
  rw [htotal, ← hstart] at hrun
  obtain ⟨hbusy, t, ht, hsw⟩ :=
    performAll_of_busyFor hrun (s := acknowledge (s.setSw (writeSwCtrl s.params s.swCfg 1 s.sw))) rfl rfl
  refine ⟨hbusy, t, ht, ?_⟩
  rw [hsw]
  exact ⟨rfl, rfl, rfl, rfl, rfl, hbuf⟩

end Sys2Proof.Machine
end

section
/-! The checksum generator: its operations, and its register as a long division over GF(2)
(42_crc_frame.md R291 to R294). -/

namespace Sys2Proof.Machine

/-! ## The operations -/

theorem exec_wrCrcCtrl_of_init {v : Word} (h : v.getLsbD 0 = true) (s : State) :
    exec (.wrCrcCtrl v) s = .next (acknowledge (s.setCrc Config.crcInit)) :=
  congrArg (fun t => Host.Outcome.next (acknowledge t)) (if_pos h)

theorem exec_wrCrcCtrl_of_no_init {v : Word} (h : v.getLsbD 0 = false) (s : State) :
    exec (.wrCrcCtrl v) s = .next (acknowledge s) :=
  congrArg (fun t => Host.Outcome.next (acknowledge t)) (if_neg (Bool.not_eq_true _ ▸ h))

theorem exec_wrCrcData (v : Word) (s : State) :
    exec (.wrCrcData v) s = .next (acknowledge (s.setCrc (crcByte s.crc (vLow8 v)))) := rfl

/-- R292's eight shifts, counted. -/
theorem crcByte_eq_foldl_range (c : Half) (b : Byte) :
    crcByte c b = (List.range 8).foldl (fun c _ => crcShift c) (c ^^^ (b.setWidth 16 <<< 8)) := rfl

/-- Settles O31: INIT by its bit, DATA by the shifts of one byte, and R294's values by evaluation. -/
theorem checksumInitAndData : Obligations.ChecksumInitAndData := by
  refine ⟨fun v s => ⟨rfl, rfl, exec_wrCrcCtrl_of_init (s := s), exec_wrCrcCtrl_of_no_init (s := s), ?_⟩,
    ?_, ?_, ?_, ?_⟩
  · rw [exec_wrCrcData, crcByte_eq_foldl_range]
    rfl
  all_goals decide +kernel

/-- A byte on the bus is the low byte of its word. -/
theorem vLow8_setWidth (b : Byte) : vLow8 (b.setWidth 32) = b := by
  rw [vLow8, ← BitVec.setWidth_eq_extractLsb' (by decide), BitVec.setWidth_setWidth_of_le b (by decide),
    BitVec.setWidth_eq]

/-- A run of DATA writes feeds its bytes to the running value. -/
theorem performAll_wrCrcData (bytes : List Byte) (s : State) :
    ∃ t, performAll (bytes.map fun b => .wrCrcData (b.setWidth 32)) s = .next t ∧
      t.crc = bytes.foldl crcByte s.crc := by
  induction bytes generalizing s with
  | nil => exact ⟨s, rfl, rfl⟩
  | cons b bytes ih =>
    obtain ⟨t, ht, hcrc⟩ := ih (acknowledge (s.setCrc (crcByte s.crc b)))
    refine ⟨t, ?_, hcrc⟩
    rw [List.map_cons, performAll, exec_wrCrcData, vLow8_setWidth]
    exact ht

/-- INIT and a run of DATA writes leave the bytes' `crc16` (R293, R303). -/
theorem performAll_crcWrites (bytes : List Byte) (s : State) :
    ∃ t, performAll (crcWrites bytes) s = .next t ∧ t.crc = crc16 bytes := by
  rw [crcWrites, performAll, exec_wrCrcCtrl_of_init rfl]
  exact performAll_wrCrcData bytes (acknowledge (s.setCrc Config.crcInit))

/-! ## Long division over GF(2)

A division brings each bit in at the low end of its register, the generator at the high end. The two agree once
16 zeros follow the message, because a division step is linear. -/

/-- What one bit of the quotient subtracts. -/
def subtrahend (q : Bool) : Half := if q then Config.crcPoly else 0

theorem subtrahend_xor (p q : Bool) : subtrahend (p ^^ q) = subtrahend p ^^^ subtrahend q := by
  cases p <;> cases q <;> rfl

theorem divisionStep_eq_xor (r : Half) (b : Bool) :
    divisionStep r b = (r <<< 1) ^^^ (BitVec.ofBool b).setWidth 16 ^^^ subtrahend (r.getLsbD 15) := by
  have hlow : (r <<< 1) ||| (BitVec.ofBool b).setWidth 16 = (r <<< 1) ^^^ (BitVec.ofBool b).setWidth 16 := by
    ext i hi
    cases i <;> simp
  rw [divisionStep, subtrahend, hlow]
  split
  · rfl
  · exact BitVec.xor_zero.symm

/-- A division step is linear over GF(2). -/
theorem divisionStep_xor (r d : Half) (b m : Bool) :
    divisionStep (r ^^^ d) (b ^^ m) = divisionStep r b ^^^ divisionStep d m := by
  simp only [divisionStep_eq_xor, BitVec.shiftLeft_xor_distrib, BitVec.getLsbD_xor, subtrahend_xor,
    ← BitVec.ofBool_xor_ofBool, BitVec.setWidth_xor]
  ac_rfl

/-- Dividing what has every bit XORed with `m` differs by what a run of `m` alone leaves. -/
theorem foldl_divisionStep_map_xor (m : Bool) (bits : List Bool) (r d : Half) :
    (bits.map (· ^^ m)).foldl divisionStep (r ^^^ d) =
      bits.foldl divisionStep r ^^^ (List.replicate bits.length m).foldl divisionStep d := by
  induction bits generalizing r d with
  | nil => rfl
  | cons b bits ih =>
    rw [List.map_cons, List.foldl_cons, divisionStep_xor, ih]
    rfl

/-- The register after 16 more zeros of a division. -/
def afterZeros (r : Half) : Half := (List.replicate 16 false).foldl divisionStep r

theorem afterZeros_xor (r d : Half) : afterZeros (r ^^^ d) = afterZeros r ^^^ afterZeros d :=
  foldl_divisionStep_map_xor false (List.replicate 16 false) r d

/-- The start of a division whose first 16 bits make of it the value INIT loads (R291). -/
def divisionInit : Half := 0x84CF

theorem afterZeros_divisionInit : afterZeros divisionInit = Config.crcInit := by decide +kernel

/-- Inverting the first 16 bits is starting from `divisionInit`. -/
theorem foldl_divisionStep_map_not {bits : List Bool} (h : bits.length = 16) :
    (bits.map (!·)).foldl divisionStep 0#16 = bits.foldl divisionStep divisionInit := by
  have hones : (List.replicate 16 true).foldl divisionStep 0#16 = Config.crcInit := by decide +kernel
  have hinverted := foldl_divisionStep_map_xor true bits 0#16 0#16
  have hstarted := foldl_divisionStep_map_xor false bits 0#16 divisionInit
  rw [h, hones] at hinverted
  rw [h, ← afterZeros, afterZeros_divisionInit] at hstarted
  simpa only [Bool.xor_true, Bool.xor_false, List.map_id', BitVec.zero_xor, BitVec.xor_zero] using
    hinverted.trans hstarted.symm

/-! ## The generator's register -/

theorem crcShift_eq_xor (c : Half) : crcShift c = (c <<< 1) ^^^ subtrahend (c.getLsbD 15) := by
  rw [crcShift, subtrahend]
  split
  · rfl
  · exact BitVec.xor_zero.symm

/-- The generator's shift is a division step that brings down a 0. -/
theorem crcShift_eq_divisionStep (c : Half) : crcShift c = divisionStep c false := by
  rw [crcShift_eq_xor, divisionStep_eq_xor]
  exact congrArg (· ^^^ subtrahend _) BitVec.xor_zero.symm

theorem crcShift_xor (c d : Half) : crcShift (c ^^^ d) = crcShift c ^^^ crcShift d := by
  simp only [crcShift_eq_divisionStep, ← divisionStep_xor, Bool.xor_false]

/-- One bit of the message, brought in at the high end of the register. -/
def crcBit (c : Half) (b : Bool) : Half := crcShift c ^^^ subtrahend b

/-- A shift of the register with a byte XORed into its high end uses up the byte's top bit. -/
theorem crcShift_xor_byte (c : Half) (b : Byte) :
    crcShift (c ^^^ (b.setWidth 16 <<< 8)) = crcBit c (b.getLsbD 7) ^^^ ((b <<< 1).setWidth 16 <<< 8) := by
  have htop : (b.setWidth 16 <<< 8).getLsbD 15 = b.getLsbD 7 := by simp
  have hrest : b.setWidth 16 <<< 8 <<< 1 = (b <<< 1).setWidth 16 <<< 8 := by bv_omega
  rw [crcShift_xor, crcShift_eq_xor (b.setWidth 16 <<< 8), htop, hrest, crcBit, BitVec.xor_assoc,
    BitVec.xor_comm (subtrahend _)]

/-- A DATA write feeds the bits of its byte, most significant first (R292). -/
theorem crcByte_eq_foldl_bitsOf (c : Half) (b : Byte) : crcByte c b = (bitsOf b).foldl crcBit c := by
  have hout : b <<< 8 = 0#8 := BitVec.shiftLeft_eq_zero (by decide)
  simp [crcByte, crcShift_xor_byte, bitsOf, ← BitVec.shiftLeft_add, hout]

theorem crc16_eq_foldl_bits (bytes : List Byte) :
    crc16 bytes = (bytes.flatMap bitsOf).foldl crcBit Config.crcInit := by
  simp only [crc16, List.foldl_flatMap, ← crcByte_eq_foldl_bitsOf]

/-- A bit brought in at the low end reaches the high end 16 steps later. -/
theorem crcBit_afterZeros (r : Half) (b : Bool) : crcBit (afterZeros r) b = afterZeros (divisionStep r b) := by
  have hbit : afterZeros (divisionStep 0#16 b) = subtrahend b := by
    revert b
    decide +kernel
  have hsplit : divisionStep r b = divisionStep r false ^^^ divisionStep 0#16 b := by
    rw [← divisionStep_xor, BitVec.xor_zero, Bool.false_xor]
  rw [hsplit, afterZeros_xor, hbit, crcBit, crcShift_eq_divisionStep]
  rfl

/-- The generator's register after the message is the division's after the message and 16 zeros. -/
theorem foldl_crcBit_afterZeros (bits : List Bool) (r : Half) :
    bits.foldl crcBit (afterZeros r) = (bits ++ List.replicate 16 false).foldl divisionStep r := by
  induction bits generalizing r with
  | nil => rfl
  | cons b bits ih =>
    rw [List.foldl_cons, crcBit_afterZeros, ih]
    rfl

theorem crc16_eq_polyRemainder (bytes : List Byte) : crc16 bytes = polyRemainder (dividendOf bytes) := by
  set bits := bytes.flatMap bitsOf ++ List.replicate 16 false with hbits
  have hlen : (bits.take 16).length = 16 := by simp [hbits]
  calc crc16 bytes = bits.foldl divisionStep divisionInit := by
        rw [crc16_eq_foldl_bits, ← afterZeros_divisionInit, foldl_crcBit_afterZeros]
    _ = (bits.take 16 ++ bits.drop 16).foldl divisionStep divisionInit := by rw [List.take_append_drop]
    _ = ((bits.take 16).map (!·) ++ bits.drop 16).foldl divisionStep 0#16 := by
        rw [List.foldl_append, List.foldl_append, foldl_divisionStep_map_not hlen]

/-- Settles O57: a division followed by 16 zeros, from the start that makes INIT's value of them. -/
theorem checksumIsPolynomialRemainder : Obligations.ChecksumIsPolynomialRemainder :=
  fun bytes => ⟨performAll_crcWrites bytes, crc16_eq_polyRemainder bytes⟩

end Sys2Proof.Machine
end

section
/-! The 24-byte frame: what its reader recovers, and its fields (42_crc_frame.md R300 to R304). -/

namespace Sys2Proof.Machine

/-- The two bytes of a 16-bit field make it up. -/
theorem append_leBytes16 (x : Half) : (x.extractLsb' 8 8 ++ x.extractLsb' 0 8 : BitVec 16) = x :=
  BitVec.extractLsb'_append_extractLsb' (w := 8) (len := 8)

/-- The four bytes of a 32-bit field make it up. -/
theorem append_leBytes32 (x : Word) :
    (x.extractLsb' 24 8 ++ x.extractLsb' 16 8 ++ x.extractLsb' 8 8 ++ x.extractLsb' 0 8 : BitVec 32) = x := by
  rw [BitVec.extractLsb'_append_extractLsb'_eq_extractLsb' (rfl : 24 = 16 + 8),
    BitVec.extractLsb'_append_extractLsb'_eq_extractLsb' (rfl : 16 = 8 + 8)]
  exact BitVec.extractLsb'_append_extractLsb' (w := 24) (len := 8)

theorem leBytes16_length (x : Half) : (leBytes16 x).length = 2 := rfl

theorem frameOf_length (payload : List Byte) : (frameOf payload).length = payload.length + 5 := by
  simp [frameOf, leBytes16_length]

/-- A frame's header and length byte come first, whatever the payload (R300). -/
theorem frameOf_eq_cons (payload : List Byte) :
    frameOf payload = 0x55#8 :: 0xAA#8 :: 0x13#8 :: (payload ++ leBytes16 (crc16 payload)) := rfl

/-- The reader splits what follows the header at the payload's length. -/
theorem readFrame_frameOf {payload : List Byte} (h : payload.length = 19) :
    readFrame (frameOf payload) = some (payload, crc16 payload) := by
  have htake : (payload ++ leBytes16 (crc16 payload)).take 19 = payload := List.take_left' h
  have hdrop : (payload ++ leBytes16 (crc16 payload)).drop 19 = leBytes16 (crc16 payload) :=
    List.drop_left' h
  have hlen : (payload ++ leBytes16 (crc16 payload)).length = Config.framePayloadLen + 2 := by
    rw [List.length_append, h, leBytes16_length]
    rfl
  rw [frameOf_eq_cons, readFrame, if_pos ⟨rfl, rfl, rfl, hlen⟩, Config.framePayloadLen, htake, hdrop,
    leBytes16]
  simp only [append_leBytes16]

theorem frameValid_of_readFrame {frame payload : List Byte}
    (h : readFrame frame = some (payload, crc16 payload)) :
    frameValid frame = true := by
  rw [frameValid, h]
  exact beq_self_eq_true _

theorem FramePayload.bytes_length (p : FramePayload) : p.bytes.length = 19 := rfl

theorem FramePayload.ofBytes_bytes (p : FramePayload) : FramePayload.ofBytes p.bytes = some p := by
  simp only [FramePayload.bytes, leBytes16, leBytes32, List.cons_append, List.nil_append,
    FramePayload.ofBytes, append_leBytes16, append_leBytes32]

/-- Settles O58: the frame's reader, its fields' bytes, R303's writes, and R304's example by evaluation. -/
theorem frameRoundTrip : Obligations.FrameRoundTrip := by
  refine ⟨fun payload h => ?_, fun p => ⟨p.bytes_length, p.ofBytes_bytes⟩, performAll_crcWrites, ?_, ?_⟩
  · have hread := readFrame_frameOf h
    exact ⟨by rw [frameOf_length, h], rfl, hread, frameValid_of_readFrame hread⟩
  all_goals decide +kernel

end Sys2Proof.Machine
end

section
/-! The queues' commands, and what runs of PUSHes and POPs leave (43_queues.md R321, R324, R325, R327, R328,
R331). -/

namespace Sys2Proof.Machine

/-! ## The commands -/

section
variable {v : Word} (s : State)

theorem exec_wrRqCmd_of_pop (h : v.getLsbD 0 = true) :
    exec (.wrRqCmd v) s = .next (acknowledge (s.setRq s.rq.pop)) :=
  congrArg (fun t => Host.Outcome.next (acknowledge t)) (if_pos h)

theorem exec_wrRqCmd_of_no_pop (h : v.getLsbD 0 = false) :
    exec (.wrRqCmd v) s = .next (acknowledge s) :=
  congrArg (fun t => Host.Outcome.next (acknowledge t)) (if_neg (Bool.eq_false_iff.1 h))

theorem exec_wrFqCmd_of_pop (h : v.getLsbD 0 = true) :
    exec (.wrFqCmd v) s = .next (acknowledge (s.setFq s.fq.pop)) :=
  congrArg (fun t => Host.Outcome.next (acknowledge t)) (if_pos h)

theorem exec_wrFqCmd_of_no_pop (h : v.getLsbD 0 = false) :
    exec (.wrFqCmd v) s = .next (acknowledge s) :=
  congrArg (fun t => Host.Outcome.next (acknowledge t)) (if_neg (Bool.eq_false_iff.1 h))

theorem exec_wrFqPush (v : Word) :
    exec (.wrFqPush v) s = .next (acknowledge (s.setFq (s.fq.push s.params.fqDepth v))) := rfl

end

/-- Settles O32, by the POP bit; the model's queue operations are R321's. -/
theorem queueCommandsPushAndPop : Obligations.QueueCommandsPushAndPop := by
  intro v s
  refine ⟨rfl, rfl, rfl, fun h => ⟨?_, ?_⟩, fun h => ?_, ?_⟩
  · rw [exec_wrRqCmd_of_pop s h, Queue.pop_eq_popped]
    rfl
  · rw [exec_wrFqCmd_of_pop s h, Queue.pop_eq_popped]
    rfl
  · exact ⟨exec_wrRqCmd_of_no_pop s h, exec_wrFqCmd_of_no_pop s h⟩
  · rw [exec_wrFqPush, Queue.push_eq_pushed]
    rfl

/-! ## A run of PUSHes -/

section
variable {α : Type} {depth : Nat} {q : Queue α} {xs : List α}

/-- The queue holds the newest `depth` of the pushed entries and has counted the others (R331). -/
structure Queue.Retains (depth : Nat) (xs : List α) (q : Queue α) : Prop where
  entries : q.entries = xs.drop (xs.length - depth)
  ovf : q.ovf.toNat = min (xs.length - depth) (2 ^ 32 - 1)

theorem Queue.Retains.of_empty (depth : Nat) (he : q.entries = []) (ho : q.ovf = 0) :
    q.Retains depth [] :=
  ⟨by rw [he, List.drop_nil], by simp [ho]⟩

theorem Queue.Retains.full_iff (h : q.Retains depth xs) :
    q.entries.length = depth ↔ depth ≤ xs.length := by
  rw [h.entries, List.length_drop]
  omega

/-- A full queue gives up its oldest entry; one that is not full has room for everything so far. -/
theorem Queue.Retains.push (h : q.Retains depth xs) (hd : 1 ≤ depth) (x : α) :
    (q.push depth x).Retains depth (xs ++ [x]) := by
  have hlen : (xs ++ [x]).length = xs.length + 1 := List.length_append
  by_cases hfull : depth ≤ xs.length
  · have hone : xs.length + 1 - depth = xs.length - depth + 1 := by omega
    constructor
    · rw [Queue.push_entries, if_pos (h.full_iff.2 hfull), h.entries, List.tail_drop, hlen, hone,
        List.drop_append_of_le_length (by omega)]
    · rw [Queue.push_ovf, if_pos (h.full_iff.2 hfull), satInc_toNat, h.ovf, hlen]
      omega
  · have hnone : xs.length + 1 - depth = xs.length - depth := by omega
    constructor
    · rw [Queue.push_entries, if_neg (mt h.full_iff.1 hfull), h.entries, hlen, hnone,
        List.drop_append_of_le_length (by omega)]
    · rw [Queue.push_ovf, if_neg (mt h.full_iff.1 hfull), h.ovf, hlen, hnone]

end

/-- A run of PUSHes adds its words to those pushed before it. -/
theorem performAll_wrFqPush (xs : List Word) {ys : List Word} {s : State} (hd : 1 ≤ s.params.fqDepth)
    (h : s.fq.Retains s.params.fqDepth ys) :
    ∃ t, performAll (xs.map .wrFqPush) s = .next t ∧ t.fq.Retains s.params.fqDepth (ys ++ xs) := by
  induction xs generalizing ys s with
  | nil => exact ⟨s, rfl, by rwa [List.append_nil]⟩
  | cons x xs ih =>
    obtain ⟨t, hrun, ht⟩ :=
      ih (s := acknowledge (s.setFq (s.fq.push s.params.fqDepth x))) hd (h.push hd x)
    exact ⟨t, hrun, List.append_cons ys x xs ▸ ht⟩

/-! ## A run of POPs -/

section
variable {α : Type} (q : Queue α)

theorem Queue.iterate_pop_entries (n : Nat) : (Queue.pop^[n] q).entries = q.entries.drop n := by
  induction n with
  | zero => rfl
  | succ n ih => rw [Function.iterate_succ_apply', Queue.pop_entries, ih, List.tail_drop]

/-- POP number `k + 1` returns the entry at `k`. -/
theorem Queue.iterate_pop_returns {k : Nat} (h : k < q.entries.length) :
    q.entries[k]? = some (Queue.pop^[k + 1] q).latch ∧ (Queue.pop^[k + 1] q).valid = true := by
  have hhead : (Queue.pop^[k] q).entries = q.entries[k] :: q.entries.drop (k + 1) := by
    rw [Queue.iterate_pop_entries, List.drop_eq_getElem_cons h]
  rw [Function.iterate_succ_apply', Queue.pop_cons _ _ hhead]
  exact ⟨List.getElem?_eq_getElem h, rfl⟩

theorem Queue.iterate_pop_exhausted : (Queue.pop^[q.entries.length + 1] q).valid = false := by
  have hempty : (Queue.pop^[q.entries.length] q).entries = [] := by
    rw [Queue.iterate_pop_entries, List.drop_length]
  rw [Function.iterate_succ_apply', Queue.pop_nil _ hempty]

end

theorem performAll_wrFqCmd (n : Nat) (s : State) :
    ∃ u, performAll (List.replicate n (.wrFqCmd 1)) s = .next u ∧ u.fq = Queue.pop^[n] s.fq := by
  induction n generalizing s with
  | zero => exact ⟨s, rfl, rfl⟩
  | succ n ih =>
    rw [List.replicate_succ, performAll, exec_wrFqCmd_of_pop s rfl]
    exact ih (acknowledge (s.setFq s.fq.pop))

/-- Settles O56: the PUSHes by what the queue retains of them, the POPs by the run that empties it. -/
theorem pushesRetainTheNewestWords : Obligations.PushesRetainTheNewestWords := by
  intro s xs hempty hovf hd
  obtain ⟨t, hrun, ht⟩ := performAll_wrFqPush xs hd (.of_empty _ hempty hovf)
  refine ⟨t, hrun, ht.entries, ht.ovf, fun k hk => ?_, ?_⟩
  · obtain ⟨u, hpops, hu⟩ := performAll_wrFqCmd (k + 1) t
    exact ⟨u, hpops, hu ▸ t.fq.iterate_pop_returns hk⟩
  · obtain ⟨u, hpops, hu⟩ := performAll_wrFqCmd (t.fq.entries.length + 1) t
    exact ⟨u, hpops, hu ▸ t.fq.iterate_pop_exhausted⟩

end Sys2Proof.Machine
end

section
/-! The offsets that no register has (20_memory.md R101; 44_timebase_irq.md R375). -/

namespace Sys2Proof

/-! ## The words of an aligned 32-bit access (R135) -/

/-- An offset fills bits 11:0 of its descriptor and touches none above. -/
theorem busWord_or_offset (cls size : BitVec 2) (off : Offset) :
    busWord cls size 0#12 ||| off.setWidth 16 = busWord cls size off := by
  apply BitVec.eq_of_getLsbD_eq
  intro i hi
  simp only [busWord, BitVec.getLsbD_or, BitVec.getLsbD_append, BitVec.getLsbD_setWidth]
  by_cases hlow : i < 12
  · simp [hlow, hi]
  · simp [hlow, BitVec.getLsbD_of_ge off i (Nat.not_lt.1 hlow)]

theorem or_offset_eq_readWord (off : Offset) : 0x2000#16 ||| off.setWidth 16 = readWord off :=
  busWord_or_offset 0b00#2 0b10#2 off

theorem or_offset_eq_writeWord (off : Offset) : 0x6000#16 ||| off.setWidth 16 = writeWord off :=
  busWord_or_offset 0b01#2 0b10#2 off

/-! ## The mapped sub-ranges (R101) -/

/-- The map's registers fill six runs of consecutive words. -/
theorem registerMap_offsets :
    registerMap.map Prod.snd =
      List.range' 0x000 18 4 ++ List.range' 0x100 7 4 ++ List.range' 0x200 3 4 ++ List.range' 0x300 14 4 ++
        List.range' 0x380 5 4 ++ List.range' 0xF00 4 4 := rfl

/-- A run of `n` words from an aligned offset holds every aligned offset between its ends. -/
theorem mem_range'_four {m start n : Nat} (hm : m % 4 = 0) (hs : start % 4 = 0) :
    m ∈ List.range' start n 4 ↔ start ≤ m ∧ m < start + 4 * n := by
  rw [List.mem_range']
  constructor
  · rintro ⟨k, hk, rfl⟩
    omega
  · rintro ⟨hlo, hhi⟩
    exact ⟨(m - start) / 4, by omega, by omega⟩

section
variable {cap : Nat} {off : Offset} {w : BitVec 10}

theorem isFixedRegister_iff_mem :
    isFixedRegister w = true ↔ 4 * w.toNat ∈ registerMap.map Prod.snd := by
  simp only [isFixedRegister, List.any_eq_true, beq_iff_eq, List.mem_map]

theorem isSwBufWord_iff (hcap : cap ≤ 1024) :
    isSwBufWord cap w = true ↔ 0x400 ≤ 4 * w.toNat ∧ 4 * w.toNat < 0x400 + 4 * ((cap + 3) / 4) := by
  rw [isSwBufWord, decide_eq_true_iff, swBufWords]
  omega

/-- The decoder's test for a mapped word is membership in R101's sub-ranges. -/
theorem isMapped_iff_mappedOffset (hcap : cap ≤ 1024) (hal : off.toNat % 4 = 0) :
    isMapped cap (offWord off) = true ↔ Machine.mappedOffset cap off.toNat := by
  have hoff : off.toNat = 4 * (offWord off).toNat := toNat_of_aligned (low_eq_zero_of_mod_four hal)
  rw [isMapped, Bool.or_eq_true, isFixedRegister_iff_mem, isSwBufWord_iff hcap, registerMap_offsets, ← hoff]
  simp (disch := omega) only [List.mem_append, mem_range'_four]
  omega

/-- A read decodes to the UNMAPPED row at its own word, and only where that is not mapped. -/
theorem not_isMapped_of_decodeRead (hlow : off.extractLsb' 0 2 = 0b00#2)
    (h : decodeRead cap off = .rdUnmapped w) : isMapped cap (offWord off) = false := by
  obtain ⟨hwf, henc⟩ := h ▸ spells_decodeRead cap 0 hlow
  have hoff : mkOff w 0b00#2 = off := by
    simpa [encode, readWord] using congrArg (fun p => descOff p.1) henc
  rw [← hoff, offWord_mkOff]
  exact wellFormed_rdUnmapped_iff.1 hwf

theorem not_isMapped_of_decodeWrite {v v' : Word} (hlow : off.extractLsb' 0 2 = 0b00#2)
    (h : decodeWrite cap off v = .wrUnmapped w v') : isMapped cap (offWord off) = false := by
  obtain ⟨hwf, henc⟩ := h ▸ spells_decodeWrite cap v hlow
  have hoff : mkOff w 0b00#2 = off := by
    simpa [encode, writeWord] using congrArg (fun p => descOff p.1) henc
  rw [← hoff, offWord_mkOff]
  exact (wellFormed_wrUnmapped_iff v').1 hwf

end

/-- Settles O6: R101's sub-ranges are the decoder's own test, which alone selects the two UNMAPPED rows. -/
theorem unmappedOffsetsReadZeroIgnoreWrites : Obligations.UnmappedOffsetsReadZeroIgnoreWrites := by
  intro cap off v s _ hcap hal
  have hlow := low_eq_zero_of_mod_four hal
  rw [or_offset_eq_readWord, or_offset_eq_writeWord, decode_readWord_aligned hlow,
    decode_writeWord_aligned hlow, ← isMapped_iff_mappedOffset hcap hal]
  refine ⟨fun h => ?_, fun h => ⟨fun w hw => ?_, fun w hw => ?_⟩⟩
  · have hun : isMapped cap (offWord off) = false := Bool.eq_false_iff.2 h
    have hoff : mkOff (offWord off) 0b00#2 = off := by rw [← hlow, eq_mkOff]
    have hread := decodeRead_unmapped hun
    have hwrite := decodeWrite_unmapped v hun
    rw [hoff] at hread hwrite
    exact ⟨⟨_, hread, rfl⟩, ⟨_, hwrite, rfl⟩⟩
  · exact absurd h (Bool.eq_false_iff.1 (not_isMapped_of_decodeRead hlow hw))
  · exact absurd h (Bool.eq_false_iff.1 (not_isMapped_of_decodeWrite hlow hw))

end Sys2Proof
end

section
/-! The timebase and the two units that a TICK drives (44_timebase_irq.md R360, R361). -/

namespace Sys2Proof.Machine

/-- A TICK is the alarm check one microsecond later and then the step of the engine as it was (R360). -/
theorem tick_eq_alarmCheck (s : State) :
    tick s = (alarmCheck (s.setNow (s.nowUs + 1))).setSw (s.sw.tick s.params) := by
  have hs := alarmCheck_same (s.setNow (s.nowUs + 1))
  simp only [tick, hs.sw, hs.params, State.setNow_sw, State.setNow_params]

/-! ## The time -/

theorem tick_nowUs (s : State) : (tick s).nowUs = s.nowUs + 1 := by
  rw [tick_eq_alarmCheck, State.setSw_nowUs, (alarmCheck_same _).nowUs, State.setNow_nowUs]

/-- Settles O51: TICK and RESET by what they do, and no other effect changes the time. -/
theorem timebaseAdvancesOnlyByTick : Obligations.TimebaseAdvancesOnlyByTick := by
  intro i s t hexec
  refine ⟨?_, ?_, fun htick hreset => ?_⟩
  · rintro rfl hwrap
    cases hexec
    rw [noResponse_nowUs, tick_nowUs, toNat_add_one_of_no_wrap hwrap]
  · rintro rfl
    cases hexec
    rfl
  · obtain ⟨u, r, he, rfl⟩ := exec_effect hexec
    exact by_contra fun hc => htick (he.nowUs_changed hreset hc)

/-! ## The alarm and the engine -/

/-- A close neither reads nor writes the engine. -/
theorem closeWindow_setSw (cause : Cause) (t : Stamp) (s : State) (e : Engine) :
    closeWindow cause t (s.setSw e) = (closeWindow cause t s).setSw e := by
  unfold closeWindow
  dsimp only [State.setSw_cnt]
  split <;> rfl

theorem alarmCheck_setSw (s : State) (e : Engine) : alarmCheck (s.setSw e) = (alarmCheck s).setSw e := by
  unfold alarmCheck
  rw [closeWindow_setSw]
  exact (apply_ite (State.setSw · e) _ _ _).symm

/-- Another engine's TICK differs in the engine alone. -/
theorem tick_setSw (s : State) (e : Engine) : tick (s.setSw e) = (tick s).setSw (e.tick s.params) := by
  have hcheck : alarmCheck ((s.setSw e).setNow (s.nowUs + 1)) =
      (alarmCheck (s.setNow (s.nowUs + 1))).setSw e := alarmCheck_setSw (s.setNow _) e
  rw [tick_eq_alarmCheck s, tick_eq_alarmCheck (s.setSw e), State.setSw_nowUs, hcheck]
  rfl

theorem tick_sw (s : State) : (tick s).sw = s.sw.tick s.params := by
  rw [tick_eq_alarmCheck, State.setSw_sw]

/-- Settles O40: the alarm check commutes with a change of engine, and the engine's step reads only the engine
and the parameters. -/
theorem tickUnitsAreIndependent : Obligations.TickUnitsAreIndependent := by
  intro s e c q t hexec
  cases hexec
  refine ⟨⟨_, exec_evTick (s.setSw e), ?_, ?_⟩, ⟨_, exec_evTick ((s.setCnt c).setRq q), ?_⟩⟩
  · rw [noResponse_cnt, tick_setSw]; rfl
  · rw [noResponse_rq, tick_setSw]; rfl
  · rw [noResponse_sw, noResponse_sw, tick_sw, tick_sw]; rfl

end Sys2Proof.Machine
end

section
/-! The registers' access kinds: write-only, read-only and read-write (30_encoding.md R135;
44_timebase_irq.md R376 to R378). -/

namespace Sys2Proof.Machine

/-! ## Write-only registers (R377) -/

/-- Settles O19: the six registers answer the constant 0, and ARM is no bit of CNT_CTRL's image. -/
theorem writeOnlyRegistersReadZero : Obligations.WriteOnlyRegistersReadZero := by
  refine fun s => ⟨rfl, rfl, rfl, rfl, rfl, rfl, cntCtrlImage s, rfl, ?_, ?_⟩
  · rw [cntCtrlImage, getLsbD_bitAt_of_ne _ (by decide) (by decide)]
  · rw [cntCtrlImage, getLsbD_bitAt_same _ (by decide), Mode.bit_eq]

/-! ## Read-only registers (R376) -/

/-- Settles O23, register by register: each write's meaning is the acknowledge alone. -/
theorem readOnlyWritesAreIgnored : Obligations.ReadOnlyWritesAreIgnored := by
  refine fun v j s => ⟨fun i hi => ?_, rfl, rfl⟩
  fin_cases hi <;> rfl

/-! ## Read-write registers (R378) -/

section
variable {s u : State} {i j : Instr} {v w : Word}

/-- A write followed by a read of the register it leaves. -/
theorem exists_readBack (hi : exec i s = .next u) (hj : exec j u = .next (answer w u)) (hw : w = v) :
    ∃ t, performAll [i, j] s = .next t ∧ t.response = .data v := by
  refine ⟨answer w u, ?_, congrArg Response.data hw⟩
  simp only [performAll, hi, hj]

end

/-- A field stored from the low `k` bits of a word shows the word with its other bits masked. -/
theorem fieldAt_zero_extractLsb' (v : Word) {k : Nat} (hk : k ≤ 32) :
    fieldAt 0 (v.extractLsb' 0 k) = v &&& BitVec.ofNat 32 (2 ^ k - 1) := by
  have hpow : 2 ^ k ≤ 2 ^ 32 := Nat.pow_le_pow_right (by decide) hk
  have hmask : (BitVec.ofNat 32 (2 ^ k - 1)).toNat = 2 ^ k - 1 := by
    rw [BitVec.toNat_ofNat, Nat.mod_eq_of_lt (by omega)]
  apply BitVec.eq_of_toNat_eq
  rw [fieldAt_zero, BitVec.toNat_setWidth_of_le hk, BitVec.extractLsb'_toNat, BitVec.toNat_and, hmask,
    Nat.and_two_pow_sub_one_eq_mod, Nat.shiftRight_zero]

/-- A stored bit 0 is a stored field of width 1. -/
theorem bitAt_vBit0 (v : Word) : bitAt 0 (vBit0 v) = v &&& 0x00000001#32 := by
  have hbit : BitVec.ofBool (vBit0 v) = v.extractLsb' 0 1 := by
    apply BitVec.eq_of_getLsbD_eq
    intro i hi
    obtain rfl : i = 0 := by omega
    simp [vBit0]
  exact (congrArg (fieldAt 0) hbit).trans (fieldAt_zero_extractLsb' v (by decide))

theorem Mode.bit_ofBit (b : Bool) : (Mode.ofBit b).bit = b := by cases b <;> rfl

/-- With or without an arm, WR.CNT_CTRL stores MODE (R160). -/
theorem writeCntCtrl_cntCfg (v : Word) (s : State) :
    (writeCntCtrl v s).cntCfg = { s.cntCfg with mode := Mode.ofBit (vBit0 v) } := by
  unfold writeCntCtrl
  dsimp only
  split <;> rfl

/-- MODE is the lowest bit of what was written. -/
theorem cntCtrlImage_writeCntCtrl (v : Word) (s : State) :
    cntCtrlImage (acknowledge (writeCntCtrl v s)) = v &&& 0x00000001#32 := by
  rw [cntCtrlImage, acknowledge_cntCfg, writeCntCtrl_cntCfg, Mode.bit_ofBit, bitAt_vBit0]

/-- Settles O28: every register but SW_BITRATE stores the low bits of the word, which its image shows. -/
theorem readBackMasksReservedBits : Obligations.ReadBackMasksReservedBits := by
  intro v s hidle
  obtain ⟨-, -, hppm, hint⟩ := writeCntPpmAndIntEnStore v s
  obtain ⟨-, -, -, -, hsw⟩ := singleWireConfigurationStoresUnlessBusy v s
  obtain ⟨hbitrate, haddr, hlen⟩ := hsw hidle
  have hhalf : fieldAt 0 (v.extractLsb' 0 16) = v &&& 0x0000FFFF#32 :=
    fieldAt_zero_extractLsb' v (by decide)
  exact ⟨exists_readBack (exec_wrCntCtrl v s) rfl (cntCtrlImage_writeCntCtrl v s),
    exists_readBack rfl rfl hhalf, exists_readBack hppm rfl hhalf, exists_readBack rfl rfl hhalf,
    exists_readBack hbitrate rfl rfl, exists_readBack haddr rfl hhalf, exists_readBack hlen rfl hhalf,
    exists_readBack hint rfl (fieldAt_zero_extractLsb' v (by decide))⟩

end Sys2Proof.Machine
end

section
/-! The interrupt outputs and the cores they reach (44_timebase_irq.md R380; 60_exceptions.md R409). -/

namespace Sys2Proof.Machine

variable {s : State}

/-! ## Routing -/

/-- The lines at a core are those routed to it that are high. -/
theorem mem_coreInterrupts (n : Nat) (s : State) (m : Master) :
    n ∈ coreInterrupts s m ↔
      (n = 0 ∧ s.params.irqRoute0 = m ∧ irq0 s = true) ∨ (n = 1 ∧ s.params.irqRoute1 = m ∧ irq1 s = true) ∨
        (n = 2 ∧ s.params.irqRoute2 = m ∧ irq2 s = true) := by
  simp only [coreInterrupts, List.mem_append, List.mem_ite_nil_right, List.mem_singleton, or_assoc,
    and_comm (b := n = _)]

/-! ## The fall of each line -/

theorem irq0_of_empty (h : s.rq.entries = []) : irq0 s = false := by
  simp [irq0, rqNotEmpty, h]

theorem irq1_of_empty (h : s.fq.entries = []) : irq1 s = false := by
  simp [irq1, fqNotEmpty, h]

theorem irq2_of_not_done (h : s.sw.done = false) : irq2 s = false := by
  rw [irq2, h, Bool.and_false]

theorem performAll_wrRqCmd (n : Nat) (s : State) :
    ∃ u, performAll (List.replicate n (.wrRqCmd 1)) s = .next u ∧ u.rq = Queue.pop^[n] s.rq := by
  induction n generalizing s with
  | zero => exact ⟨s, rfl, rfl⟩
  | succ n ih =>
    rw [List.replicate_succ, performAll, exec_wrRqCmd_of_pop s rfl]
    exact ih (acknowledge (s.setRq s.rq.pop))

/-- As many POPs as there are entries leave none. -/
theorem Queue.iterate_pop_length_entries {α : Type} (q : Queue α) :
    (Queue.pop^[q.entries.length] q).entries = [] := by
  rw [Queue.iterate_pop_entries, List.drop_length]

/-- CLR_DONE alone clears DONE, whether or not the engine is busy (R235). -/
theorem exec_wrSwCtrl_clrDone (s : State) : ∃ t, exec (.wrSwCtrl 2) s = .next t ∧ t.sw.done = false := by
  refine ⟨_, exec_wrSwCtrl 2 s, ?_⟩
  rw [acknowledge_sw, State.setSw_sw, writeSwCtrl_of_not_started _ (.inl rfl)]
  rfl

/-- Settles O55: the levels by their definitions, the routes line by line, and each line's fall by what
removes its condition. -/
theorem interruptLinesAreLevels : Obligations.InterruptLinesAreLevels := by
  refine fun s => ⟨rfl, rfl, rfl, fun m => ?_, ?_, ?_, ?_⟩
  · simp [mem_coreInterrupts]
  · obtain ⟨t, hrun, ht⟩ := performAll_wrRqCmd s.rq.entries.length s
    exact ⟨t, hrun, irq0_of_empty (ht ▸ s.rq.iterate_pop_length_entries)⟩
  · obtain ⟨t, hrun, ht⟩ := performAll_wrFqCmd s.fq.entries.length s
    exact ⟨t, hrun, irq1_of_empty (ht ▸ s.fq.iterate_pop_length_entries)⟩
  · obtain ⟨t, hexec, ht⟩ := exec_wrSwCtrl_clrDone s
    exact ⟨t, hexec, irq2_of_not_done ht⟩

end Sys2Proof.Machine
end

section
/-! The error rows, the record of a bus error, and the masters' equality before the block (60_exceptions.md R401,
R402, R414; 70_reset_and_hazards.md R476). -/

namespace Sys2Proof.Machine

variable {s : State}

/-! ## The record of a bus error -/

/-- Two agents that bring about the same state differ only in whose name stands in the fault record. -/
theorem recordFault_agent (a b : Agent) (s : State) :
    (recordFault b s).setFaults (recordFault a s).faults = recordFault a s ∧
      (recordFault b s).faults.map (·.2) = (recordFault a s).faults.map (·.2) := by
  obtain ⟨k, hk, ha⟩ | ⟨hnone, ha⟩ := recordFault_cases a s
  · rw [ha, recordFault_of_error b hk]
    exact ⟨rfl, by simp⟩
  · rw [ha, recordFault_of_no_error b hnone]
    exact ⟨rfl, rfl⟩

/-- R475: a core has a move for every bus access. -/
theorem Request.proper_of_core_access {r : Request} {m : Master} (ha : r.agent = .core m)
    (hd : r.desc.getLsbD 15 = false) : r.proper = true := by
  obtain hc | hc := (getLsbD_15_eq_false_iff r.desc).1 hd <;> simp [Request.proper, ha, hc]

/-- R476: an operation that only raises a bus error takes the request and is recorded against its agent. -/
theorem step_of_exec_raiseBusError {r : Request} {rest : List Request} {k : BusError}
    (hv : s.params.Valid) (hp : s.pending = r :: rest) (hq : r.proper = true)
    (he : exec (decode s.params.bufCap r.desc r.data) (s.setPending rest) =
      .next (raiseBusError k (s.setPending rest))) :
    step s = .next { s with pending := rest, response := .error k, faults := s.faults ++ [(r.agent, k)] } := by
  rw [step_of_exec hv hp hq he, recordFault_of_error _ (raiseBusError_response _ k)]
  rfl

/-- Settles O12: the access raises its error by O4, and a core's access is proper. -/
theorem stepRecordsBusErrorAgainstIssuer : Obligations.StepRecordsBusErrorAgainstIssuer := by
  intro s r rest m hv hp ha hd
  have hq : r.proper = true := Request.proper_of_core_access ha hd
  obtain ⟨hnarrow, hmisaligned, -⟩ :=
    narrowOrMisalignedAccessIsBusError s.params.bufCap r.desc r.data (s.setPending rest) hd
  exact ⟨fun hsize => step_of_exec_raiseBusError hv hp hq (hnarrow hsize),
    fun hsize hlow => step_of_exec_raiseBusError hv hp hq (hmisaligned hsize hlow)⟩

/-! ## The masters -/

/-- All that can make a step refuse: the parameters, the agent or the operation. -/
theorem step_refused_cases {e : Refusal} (h : step s = .refused e) :
    (¬ s.params.Valid ∧ e = .parameterOutOfRange) ∨
      (s.params.Valid ∧ ∃ r rest, s.pending = r :: rest ∧
        ((r.proper = false ∧ e = .agentHasNoMove) ∨
          (r.proper = true ∧
            exec (decode s.params.bufCap r.desc r.data) (s.setPending rest) = .refused e))) := by
  by_cases hv : s.params.Valid
  · refine .inr ⟨hv, ?_⟩
    cases hp : s.pending with
    | nil => rw [step_idle hv hp] at h; cases h
    | cons r rest =>
      refine ⟨r, rest, rfl, ?_⟩
      cases hq : r.proper with
      | false => rw [step_of_improper hv hp hq] at h; cases h; exact .inl ⟨rfl, rfl⟩
      | true =>
        refine .inr ⟨rfl, ?_⟩
        cases he : exec (decode s.params.bufCap r.desc r.data) (s.setPending rest) with
        | next u => rw [step_of_exec hv hp hq he] at h; cases h
        | fault f => exact nomatch f
        | refused e' => rw [step_of_exec_refused hv hp hq he] at h; cases h; rfl
  · rw [step_of_not_valid hv] at h
    cases h
    exact .inl ⟨hv, rfl⟩

/-- Settles O54: by the cases of a step that answers and of one that refuses. With another master's name the
request is proper alike and leaves the same state to perform it on. -/
theorem mastersAreIndistinguishable : Obligations.MastersAreIndistinguishable := by
  intro s d v rest m n hp
  change (∀ t, _ → ∃ u, step (s.setPending (⟨.core n, d, v⟩ :: rest)) = .next u ∧ _) ∧
    ∀ e, _ → step (s.setPending (⟨.core n, d, v⟩ :: rest)) = .refused e
  refine ⟨fun t ht => ?_, fun e he => ?_⟩
  · obtain ⟨hv, ⟨hnil, -⟩ | ⟨r, rest', u, hcons, hq, hexec, rfl⟩⟩ := step_cases ht
    · rw [hp] at hnil; cases hnil
    · rw [hp] at hcons; cases hcons
      exact ⟨_, step_of_exec hv rfl hq hexec, recordFault_agent (.core m) (.core n) u⟩
  · obtain ⟨hv, rfl⟩ | ⟨hv, r, rest', hcons, hcase⟩ := step_refused_cases he
    · exact step_of_not_valid hv
    · rw [hp] at hcons; cases hcons
      obtain ⟨hq, rfl⟩ | ⟨hq, hexec⟩ := hcase
      · exact step_of_improper hv rfl hq
      · exact step_of_exec_refused hv rfl hq hexec

/-! ## The error rows -/

/-- Settles O5: the rows of one kind are the values its part of the decoder takes over the two-bit field it
reads, each of which raises its error. -/
theorem busErrorRowsAnswerTheirCode : Obligations.BusErrorRowsAnswerTheirCode :=
  ⟨rfl, rfl, fun off w v s =>
    ⟨exec_decodeReadSize 0b00#2 off s, exec_decodeReadSize 0b01#2 off s, exec_decodeReadSize 0b11#2 off s,
      exec_decodeWriteSize 0b00#2 off v s, exec_decodeWriteSize 0b01#2 off v s,
      exec_decodeWriteSize 0b11#2 off v s,
      exec_decodeReadAlign 0b01#2 w s, exec_decodeReadAlign 0b10#2 w s, exec_decodeReadAlign 0b11#2 w s,
      exec_decodeWriteAlign 0b01#2 w v s, exec_decodeWriteAlign 0b10#2 w v s,
      exec_decodeWriteAlign 0b11#2 w v s⟩⟩

end Sys2Proof.Machine
end

section
/-! EV.RESET, and what the read-only registers read after it (70_reset_and_hazards.md R440, R441). -/

namespace Sys2Proof.Machine

variable {p : Config.Params}

/-! ## Images of the reset state -/

theorem hi32_zero : hi32 0 = 0 := rfl

theorem fieldAt_of_zero {w : Nat} (n : Nat) : fieldAt n 0#w = 0 := by simp [fieldAt]

theorem swStatusImage_reset : swStatusImage (State.resetWith p) = 0 := by
  simp [swStatusImage, State.resetWith, Engine.reset, SwResult.code, bitAt_false, fieldAt_of_zero]

theorem swLastImage_reset : swLastImage (State.resetWith p) = 0 := by
  simp [swLastImage, State.resetWith, Engine.reset, bitAt_false, fieldAt_of_zero]

theorem rFlagsImage_reset : rFlagsImage (State.resetWith p) = 0 := by
  simp [rFlagsImage, State.resetWith, Queue.reset, ResultRec.zero, Mode.bit, bitAt_false]

/-- Both queues are empty and no transaction is done. -/
theorem intStatImage_reset : intStatImage (State.resetWith p) = 0 := by
  simp [intStatImage, rqNotEmpty, fqNotEmpty, State.resetWith, Queue.reset, Engine.reset, bitAt_false]

/-- A byte reads 0 on either side of BUF_CAP: the buffer lists none, and above it there is none (R54). -/
theorem swBufByte_reset (n : Nat) : swBufByte (State.resetWith p) n = 0 := by
  rw [swBufByte]
  split
  · exact Memory.read_nil n
  · rfl

theorem swBufImage_reset (j : BitVec 8) : swBufImage j (State.resetWith p) = 0 := by
  simp [swBufImage, swBufByte_reset, fieldAt_of_zero]

/-- EMPTY alone is set: an empty queue is not full, because its depth is at least 1 (R8, R333). -/
theorem queueStatus_reset {α : Type} {depth : Nat} (zero : α) (hd : 1 ≤ depth) :
    queueStatus depth (Queue.reset zero) = 0x100 := by
  have hfull : (0 == depth) = false := beq_false_of_ne (by omega)
  change fieldAt 0 0#8 ||| bitAt 8 true ||| bitAt 9 (0 == depth) ||| bitAt 10 false = _
  rw [hfull]
  decide

/-- SW_HALF at the reset bit rate: 500000 / 20000 (R232). -/
theorem swHalfImage_reset : swHalfImage (State.resetWith p) = 25 := by
  change fieldAt 0 (halfUs Config.bitrateReset) = 25
  decide

/-! ## The table -/

/-- Settles O46: RESET's whole next state is the table by definition, and every register that reads after it
has its image of the reset state. The last tuple goes through the registers in the statement's order: the
counter with its three times, the engine, the results with their three times, the frames, the timebase and
INT_STAT; a whole item, and the lower half of a time, is 0 by definition. -/
theorem resetRestoresEveryItem : Obligations.ResetRestoresEveryItem := by
  refine ⟨rfl, fun _ => rfl, fun p j hp => ⟨next_answer swHalfImage_reset _, rfl,
    next_answer (queueStatus_reset _ (rqDepth_pos hp)) _, next_answer (queueStatus_reset _ (fqDepth_pos hp)) _,
    rfl, ?_⟩⟩
  have upper := next_answer hi32_zero (State.resetWith p)
  simp only [List.forall_mem_cons]
  exact ⟨next_answer (cntStatusImage_reset p) _, rfl, rfl, rfl, rfl, rfl, rfl,
    rfl, upper, rfl, upper, rfl, upper,
    next_answer swStatusImage_reset _, next_answer swLastImage_reset _, next_answer (swBufImage_reset j) _,
    rfl, next_answer rFlagsImage_reset _, rfl, rfl, rfl, rfl,
    rfl, upper, rfl, upper, rfl, upper,
    rfl, rfl,
    rfl, upper, next_answer intStatImage_reset _, List.forall_mem_nil _⟩

end Sys2Proof.Machine
end
